-- ==== Sys2Proof/Word.lean ====
section
/-! DEFINITION. The word types of the block and of its ports (00_scope.md R5, R6, R10; 30_encoding.md R80, R81). -/

namespace Sys2Proof

/-- A register pointer, or the value of the one 8-bit register (10_state.md R24, R44). -/
abbrev Byte := BitVec 8

/-- A 16-bit register word, the operand of every field operation (00_scope.md R5 `WORD_W`, R7). -/
abbrev Word := BitVec 16

/-- A TVAL: 32-bit two's complement with 16 fraction bits (00_scope.md R10). -/
abbrev Tval := BitVec 32

/-- The `sel` field: a shift amount, a selector or a setting code (30_encoding.md R81). -/
abbrev Sel := BitVec 4

/-- A command word `CMD[55:0]` (30_encoding.md R80). -/
abbrev Command := BitVec 56

end Sys2Proof
end

