-- ==== Sys2Proof/Syntax.lean ====
section
/-! DEFINITION. The commands of the block, one constructor per row of the opcode table (30_encoding.md R82, R83), and
the source's function names, which the assembler accepts beside them (30_encoding.md R92). -/

namespace Sys2Proof

/-- The sixteen rows of the opcode table with the operands 30_encoding.md R82 lists for each. A field that R82 does
not list for a command is ignored by it (R85 a) and has no place here. The two reserved opcodes are rows of the table
with a meaning of their own, `InvalidCommand` (R84). -/
inductive Instr where
  | dect (raw13 : Word)
  | enct (t : Tval)
  | packf (current mask : Word) (shift : Sel) (value : Word)
  | self (word mask : Word) (shift : Sel)
  | rdtemp
  | setthr (which : Sel) (t : Tval)
  | setres (code : Sel)
  | sethyst (code : Sel)
  | setshdn (flag : Sel)
  | setclk (flag : Sel)
  | setwlk (flag : Sel)
  | setalrt (enabled select polarity mode : Bool)
  | getalrt
  | clrint
  | reservedE
  | reservedF
deriving DecidableEq, Repr

/-- The opcode of each command, `CMD[55:52]` (30_encoding.md R83). -/
def Instr.opcode : Instr → BitVec 4
  | .dect _ => 0x0
  | .enct _ => 0x1
  | .packf _ _ _ _ => 0x2
  | .self _ _ _ => 0x3
  | .rdtemp => 0x4
  | .setthr _ _ => 0x5
  | .setres _ => 0x6
  | .sethyst _ => 0x7
  | .setshdn _ => 0x8
  | .setclk _ => 0x9
  | .setwlk _ => 0xA
  | .setalrt _ _ _ _ => 0xB
  | .getalrt => 0xC
  | .clrint => 0xD
  | .reservedE => 0xE
  | .reservedF => 0xF

/-- The three thresholds `setThreshold` names (30_encoding.md R92). -/
inductive Threshold where
  | upper | lower | critical
deriving DecidableEq, Repr

/-- The alternatives of the alert select argument, `selectAll | selectCritical` (10_state.md R33). -/
inductive AlertSelect where
  | selectAll | selectCritical
deriving DecidableEq, Repr

/-- The alternatives of the alert polarity argument (10_state.md R33). -/
inductive AlertPolarity where
  | low | high
deriving DecidableEq, Repr

/-- The alternatives of the alert mode argument (10_state.md R33). -/
inductive AlertMode where
  | comparator | interrupt
deriving DecidableEq, Repr

/-- The source's function names as the assembler accepts them (30_encoding.md R92). The arguments of `setResolution`
and `setHysteresis` are temperatures in °C, held as TVALs; each has four that expand. -/
inductive FunctionCall where
  | decodeTemperature (raw13 : Word)
  | encodeTemperature (value : Tval)
  | packField (current mask : Word) (shift : Sel) (value : Word)
  | selectField (word mask : Word) (shift : Sel)
  | readTemperature
  | setThreshold (which : Threshold) (value : Tval)
  | setResolution (celsius : Tval)
  | setHysteresis (celsius : Tval)
  | setShutdown (flag : Bool)
  | setCriticalLock (flag : Bool)
  | setWindowLock (flag : Bool)
  | setAlerts (enabled : Bool) (select : AlertSelect) (polarity : AlertPolarity) (mode : AlertMode)
  | getAlertStatus
  | clearInterrupt
deriving DecidableEq, Repr

end Sys2Proof
end

