-- ==== Sys2Proof/Decode.lean ====
section
/-! DEFINITION. From a 56-bit command word to a command and back (30_encoding.md R80 to R83, R89, R91), and the
expansion of the source's function names (R92). -/

namespace Sys2Proof

/-- `CMD.op` = `CMD[55:52]` (30_encoding.md R81). -/
def Command.op (w : Command) : BitVec 4 := w.extractLsb' 52 4

/-- `CMD.sel` = `CMD[51:48]` (30_encoding.md R81). -/
def Command.sel (w : Command) : Sel := w.extractLsb' 48 4

/-- `CMD.c` = `CMD[47:32]` (30_encoding.md R81). -/
def Command.c (w : Command) : Word := w.extractLsb' 32 16

/-- `CMD.b` = `CMD[31:16]` (30_encoding.md R81). -/
def Command.b (w : Command) : Word := w.extractLsb' 16 16

/-- `CMD.a` = `CMD[15:0]` (30_encoding.md R81). -/
def Command.a (w : Command) : Word := w.extractLsb' 0 16

/-- `CMD.t` = `{CMD.b, CMD.a}` (30_encoding.md R81). -/
def Command.t (w : Command) : Tval := w.b ++ w.a

/-- The decoder. It is total: every 56-bit word selects one of the 14 commands or a reserved opcode
(30_encoding.md R83, R84); an illegal `sel` is not the decoder's business but the check phase's (R85 b, R93). -/
def decode (w : Command) : Instr :=
  match w.op.toNat with
  | 0x0 => .dect w.a
  | 0x1 => .enct w.t
  | 0x2 => .packf w.a w.b w.sel w.c
  | 0x3 => .self w.a w.b w.sel
  | 0x4 => .rdtemp
  | 0x5 => .setthr w.sel w.t
  | 0x6 => .setres w.sel
  | 0x7 => .sethyst w.sel
  | 0x8 => .setshdn w.sel
  | 0x9 => .setclk w.sel
  | 0xA => .setwlk w.sel
  | 0xB => .setalrt (w.sel.getLsbD 3) (w.sel.getLsbD 2) (w.sel.getLsbD 1) (w.sel.getLsbD 0)
  | 0xC => .getalrt
  | 0xD => .clrint
  | 0xE => .reservedE
  | _ => .reservedF

/-- Why a string of bits is no command. -/
inductive DecodeError where
  /-- A command is one 56-bit word, whole: one format and one length (30_encoding.md R80). Safe: nothing else can be
  presented to the block. -/
  | notFiftySixBits
deriving DecidableEq, Repr

/-- The decoder on a number of any length: `nbits` bits with the value `w`, missing upper bits zero. -/
def decodeBits (nbits w : Nat) : Except DecodeError Instr :=
  if w % 2 ^ nbits < 2 ^ 56 then .ok (decode (BitVec.ofNat 56 (w % 2 ^ nbits))) else .error .notFiftySixBits

/-- The decoder on a word numbered as the opcode table numbers it. The table's word is the command word itself: 56
bits, bit 0 the least significant (30_encoding.md R80; log 20). -/
def decodeTableWord (nbits w : Nat) : Option Instr :=
  match decodeBits nbits w with
  | .ok i => some i
  | .error _ => none

/-- `{op, sel, c, b, a}` (30_encoding.md R80, R91). -/
def assembleFields (op : BitVec 4) (sel : Sel) (c b a : Word) : Command := op ++ sel ++ c ++ b ++ a

/-- The high half of a TVAL operand, `t[31:16]`, which goes in `b` (30_encoding.md R82). -/
def Tval.high (t : Tval) : Word := t.extractLsb' 16 16

/-- The low half of a TVAL operand, `t[15:0]`, which goes in `a` (30_encoding.md R82). -/
def Tval.low (t : Tval) : Word := t.extractLsb' 0 16

/-- `{en, selbit, pol, mode}`, the `sel` field of SETALRT (30_encoding.md R91; 42_driver_config.md R146). -/
def alertSel (enabled select polarity mode : Bool) : Sel :=
  BitVec.ofBool enabled ++ BitVec.ofBool select ++ BitVec.ofBool polarity ++ BitVec.ofBool mode

/-- The encoder: the assembler's word, with 0 in every ignored field (30_encoding.md R91). -/
def encode : Instr → Command
  | .dect raw13 => assembleFields 0x0 0 0 0 raw13
  | .enct t => assembleFields 0x1 0 0 t.high t.low
  | .packf current mask shift value => assembleFields 0x2 shift value mask current
  | .self word mask shift => assembleFields 0x3 shift 0 mask word
  | .rdtemp => assembleFields 0x4 0 0 0 0
  | .setthr which t => assembleFields 0x5 which 0 t.high t.low
  | .setres code => assembleFields 0x6 code 0 0 0
  | .sethyst code => assembleFields 0x7 code 0 0 0
  | .setshdn flag => assembleFields 0x8 flag 0 0 0
  | .setclk flag => assembleFields 0x9 flag 0 0 0
  | .setwlk flag => assembleFields 0xA flag 0 0 0
  | .setalrt enabled select polarity mode => assembleFields 0xB (alertSel enabled select polarity mode) 0 0 0
  | .getalrt => assembleFields 0xC 0 0 0 0
  | .clrint => assembleFields 0xD 0 0 0 0
  | .reservedE => assembleFields 0xE 0 0 0 0
  | .reservedF => assembleFields 0xF 0 0 0 0

/-- `RES_CODE` (10_state.md R30) on temperatures in °C as TVALs: 0.5, 0.25, 0.125, 0.0625. PRESUMED by the spec from
general knowledge (log 13). -/
def resolutionCode (celsius : Tval) : Option Sel :=
  if celsius = 0x00008000 then some 0
  else if celsius = 0x00004000 then some 1
  else if celsius = 0x00002000 then some 2
  else if celsius = 0x00001000 then some 3
  else none

/-- `HYST_CODE` (10_state.md R31) on temperatures in °C as TVALs: 0, 1.5, 3.0, 6.0. PRESUMED by the spec from general
knowledge (log 13). -/
def hysteresisCode (celsius : Tval) : Option Sel :=
  if celsius = 0x00000000 then some 0
  else if celsius = 0x00018000 then some 1
  else if celsius = 0x00030000 then some 2
  else if celsius = 0x00060000 then some 3
  else none

/-- A Boolean argument as `sel`: 0 = false, 1 = true (30_encoding.md R89). -/
def booleanSel (flag : Bool) : Sel := if flag then 1 else 0

/-- `which` of SETTHR: 0 Tupper, 1 Tlower, 2 Tcritical (30_encoding.md R82, R92). -/
def Threshold.sel : Threshold → Sel
  | .upper => 0
  | .lower => 1
  | .critical => 2

/-- ALERT_SEL of each alternative (10_state.md R33; log 13). -/
def AlertSelect.bit : AlertSelect → Bool
  | .selectAll => false
  | .selectCritical => true

/-- ALERT_POL of each alternative (10_state.md R33; log 13). -/
def AlertPolarity.bit : AlertPolarity → Bool
  | .low => false
  | .high => true

/-- ALERT_MODE of each alternative (10_state.md R33; log 13). -/
def AlertMode.bit : AlertMode → Bool
  | .comparator => false
  | .interrupt => true

/-- Each function name expands to exactly one command; an argument outside the listed alternatives has no expansion
(30_encoding.md R92). -/
def FunctionCall.expand : FunctionCall → Option Instr
  | .decodeTemperature raw13 => some (.dect raw13)
  | .encodeTemperature value => some (.enct value)
  | .packField current mask shift value => some (.packf current mask shift value)
  | .selectField word mask shift => some (.self word mask shift)
  | .readTemperature => some .rdtemp
  | .setThreshold which value => some (.setthr which.sel value)
  | .setResolution celsius => (resolutionCode celsius).map .setres
  | .setHysteresis celsius => (hysteresisCode celsius).map .sethyst
  | .setShutdown flag => some (.setshdn (booleanSel flag))
  | .setCriticalLock flag => some (.setclk (booleanSel flag))
  | .setWindowLock flag => some (.setwlk (booleanSel flag))
  | .setAlerts enabled select polarity mode => some (.setalrt enabled select.bit polarity.bit mode.bit)
  | .getAlertStatus => some .getalrt
  | .clearInterrupt => some .clrint

end Sys2Proof
end

