-- ==== Sys2Proof/Machine/Types.lean ====
section
/-! DEFINITION. The data the machine's state is made of: the sensor's registers, the steps of the other agents, the
answers of the transport, the bus port and the response port (10_state.md; 20_memory.md R50, R51;
30_encoding.md R86). -/

namespace Sys2Proof.Machine

/-- The bits of each writable register that a write leaves as they are (10_state.md R38; 70_reset_and_hazards.md R208).
TAMBIENT needs none: a write never changes it. -/
structure KeptBits where
  config : Word
  tupper : Word
  tlower : Word
  tcrit : Word
  resolution : Byte
deriving DecidableEq, Repr, Inhabited

/-- The parameter `SENSOR_WRITE` (00_scope.md R5) as plain data: which bits the sensor does not take from a write, in
every state, while WIN_LOCK is set, and while CRIT_LOCK is set. All else is the default of 10_state.md R38. DESIGN
CHOICE (log 5). -/
structure SensorWrite where
  always : KeptBits
  whileWinLock : KeptBits
  whileCritLock : KeptBits
deriving DecidableEq, Repr, Inhabited

/-- No bit is kept. -/
def KeptBits.none : KeptBits := { config := 0, tupper := 0, tlower := 0, tcrit := 0, resolution := 0 }

/-- The default `SENSOR_WRITE` of 10_state.md R38: every write is stored, whatever the lock bits. -/
def SensorWrite.default : SensorWrite :=
  { always := KeptBits.none, whileWinLock := KeptBits.none, whileCritLock := KeptBits.none }

/-- What the platform configures before the first command and nothing changes afterwards
(00_scope.md R5; 70_reset_and_hazards.md R190, R193). -/
structure Platform where
  /-- `DEV_ADDR`, the bus address of the one sensor this block owns (10_state.md R23). -/
  devAddr : Nat
  /-- `BUS_ID`, opaque; no rule reads it (00_scope.md R5). -/
  busId : Nat
  /-- `EXCLUSIVE`: this block is the only bus master that writes the sensor (70_reset_and_hazards.md R196). -/
  exclusive : Bool
  /-- `SENSOR_WRITE`, how the sensor stores a written value (10_state.md R38). -/
  sensorWrite : SensorWrite
deriving DecidableEq, Repr, Inhabited

/-- The sensor's registers (10_state.md R24). -/
structure Sensor where
  config : Word
  tupper : Word
  tlower : Word
  tcrit : Word
  tambient : Word
  resolution : Byte
deriving DecidableEq, Repr, Inhabited

/-- The five registers accessed by word, pointers 0x01 to 0x05 (20_memory.md R60). RESOLUTION, pointer 0x08, is the
one accessed by byte. -/
inductive WordReg where
  | config | tupper | tlower | tcrit | tambient
deriving DecidableEq, Repr

/-- A step of the sensor's own (10_state.md R40). PowerOnReset stands apart, in `Turn` and `Fate`. -/
inductive SensorStep where
  /-- SensorMeasure: any 16-bit value. -/
  | measure (value : Word)
  /-- SensorAlert: any bit. -/
  | alert (active : Bool)
  /-- SensorIntClrDone. -/
  | intClrDone
deriving DecidableEq, Repr

/-- A transaction of another bus master on the same sensor, with register values (10_state.md R20). A master's failed
write is either of the two writes it may have been (20_memory.md R64), so it needs no case of its own. -/
inductive MasterTxn where
  | readWord (r : WordReg)
  | writeWord (r : WordReg) (value : Word)
  | readByte
  | writeByte (value : Byte)
deriving DecidableEq, Repr

/-- What may happen between two transactions of the block (20_memory.md R61). -/
inductive AgentStep where
  | sensor (step : SensorStep)
  | master (txn : MasterTxn)
deriving DecidableEq, Repr

/-- How one transaction of the block ends; decided outside the block, under no law (20_memory.md R51). -/
inductive Fate where
  | succeeds
  /-- The transport reports a failure. For a write, `stored` says which of the two outcomes of 20_memory.md R64 the
  register has. -/
  | fails (stored : Bool)
  /-- The sensor loses power while the command is in flight: the command ends in `TransportError` and the registers
  take the drawn values (10_state.md R41; log 7). -/
  | powerOnReset (drawn : Sensor)
deriving DecidableEq, Repr, Inhabited

/-- Everything outside the block that one transaction meets: the steps other agents took since the previous
transaction, and how it ends (log 2, log 22). -/
structure TxnInput where
  before : List AgentStep
  fate : Fate
deriving DecidableEq, Repr, Inhabited

/-- The four primitives of the transport (20_memory.md R50); a word is the raw transport word. -/
inductive BusPrimitive where
  | readByte
  | readWord
  | writeByte (value : Byte)
  | writeWord (raw : Word)
deriving DecidableEq, Repr

/-- One transaction as the block's bus port shows it, words raw. `none` and `false` mark a failed transaction. -/
inductive BusOp where
  | rd8 (pointer : Byte) (value : Option Byte)
  | rd16 (pointer : Byte) (raw : Option Word)
  | wr8 (pointer : Byte) (value : Byte) (ok : Bool)
  | wr16 (pointer : Byte) (raw : Word) (ok : Bool)
deriving DecidableEq, Repr

/-- A transaction with the bus address it used (20_memory.md R71) and the phase it was issued in (10_state.md R22). -/
structure BusRecord where
  addr : Nat
  phase : Nat
  op : BusOp
deriving DecidableEq, Repr

/-- The error kinds (60_exceptions.md R170), with the information a model may carry. -/
inductive CommandError where
  | transportError (pointer : Byte)
  | rangeError (t : Tval)
  | invalidConfiguration (sel : Sel)
  | invalidCommand
deriving DecidableEq, Repr

/-- The response of a command: data only when the status is OK (30_encoding.md R86). -/
inductive Response where
  | ok (data : BitVec 32)
  | error (kind : CommandError)
deriving DecidableEq, Repr

/-- What comes next while the block is idle: a command the host presents, a step of another agent, or a reset. -/
inductive Turn where
  /-- A command word, and the phase after which a reset of the block arrives, if one arrives while it is in flight
  (70_reset_and_hazards.md R190; log 8). -/
  | command (word : Command) (resetAfter : Option Nat)
  | sensor (step : SensorStep)
  /-- Another master calls a transport primitive at a register pointer. -/
  | access (pointer : Byte) (primitive : BusPrimitive)
  /-- PowerOnReset of the sensor with the values its registers take (10_state.md R41). -/
  | powerOnReset (drawn : Sensor)
  /-- Reset of the block while no command is in flight (70_reset_and_hazards.md R190). -/
  | blockReset
deriving DecidableEq, Repr

/-- The block's own state (10_state.md R23 c): the command word in flight, its phase, and the value the first
transaction of a two-transaction command returned. -/
structure Block where
  command : Option Command
  phase : Nat
  latched : Option Word
deriving DecidableEq, Repr

/-- The transport as an input and the block's bus port as an output. -/
structure Bus where
  /-- What the coming transactions meet, the next one first. -/
  script : List TxnInput
  /-- How many transactions have taken their input, the index of the free value past the script's end. -/
  issued : Nat
  /-- The transactions the block has issued, newest first. -/
  trace : List BusRecord
deriving DecidableEq, Repr

end Sys2Proof.Machine
end

