-- ==== Sys2Proof/Config.lean ====
section
/-! DEFINITION. What the spec leaves to the platform or leaves free, as constants without a body
(00_scope.md R5; 20_memory.md R51; 93_implementation_defined.md U3, U4, U11, U12). -/

namespace Sys2Proof

open Sys2Proof.Machine in
/-- `DEV_ADDR`, `BUS_ID` and `EXCLUSIVE` as the platform configured them (00_scope.md R5: OPEN). DESIGN CHOICE: an
opaque constant (log 4). Safe. -/
opaque Config.platform : Platform

open Sys2Proof.Machine in
/-- FREE VALUE: what the transaction with this index meets when the script in State says nothing about it: the other
agents' steps and the outcome, under no law (20_memory.md R51; 10_state.md R40). DESIGN CHOICE (log 2). Safe. -/
opaque Config.freeTxn : Nat → TxnInput

end Sys2Proof
end

