-- ==== Sys2Proof/Machine/State.lean ====
section
/-! DEFINITION. The machine's state, the reasons a step can stop, and the state after reset
(10_state.md; 70_reset_and_hazards.md R190 to R192). -/

namespace Sys2Proof.Machine

/-- Everything the spec gives the machine, with the inputs and outputs of its three ports as plain data. -/
structure State where
  /-- The constants of this block and its platform (10_state.md R23 a, b; 00_scope.md R5). -/
  platform : Platform
  /-- The block's own state (10_state.md R23 c). -/
  block : Block
  /-- An input: the phase of the command in flight after which a reset of the block arrives, none when none arrives
  before its response (70_reset_and_hazards.md R190; log 8). -/
  resetAfter : Option Nat
  /-- The sensor's registers (10_state.md R24). -/
  sensor : Sensor
  /-- The transport's coming answers and the block's transactions so far (20_memory.md R50, R51). -/
  bus : Bus
  /-- What is presented to the block, and what happens while it is idle, the next first (10_state.md R20). -/
  turns : List Turn
  /-- The responses the host has received, newest first (30_encoding.md R86). -/
  responses : List Response
deriving DecidableEq, Repr

/-- The reasons the machine stops with a fault: none. Every error of the spec ends one command with a response, after
which the block accepts the next command (60_exceptions.md R176, R177). -/
inductive Fault where
deriving DecidableEq, Repr

/-- The reasons a step has no meaning. -/
inductive Refusal where
  /-- Raised by `exec` for an instruction without a meaning yet; no arm raises it now. Safe. -/
  | notModelled (mnemonic : String)
  /-- Raised by `step` for a byte access to a 16-bit register or a word access to RESOLUTION by another master: "a
  model refuses such a transaction" (20_memory.md R59). Safe. -/
  | widthMismatch
  /-- Raised by `step` for another master's access to a pointer at which the spec gives no register
  (10_state.md R27). Safe. -/
  | noRegister
  /-- Raised by `step` for a command, or a sensor power-on reset, presented while a command is in flight: the host must
  wait for the response (70_reset_and_hazards.md R207; 10_state.md R41). Safe. -/
  | blockBusy
deriving DecidableEq, Repr

/-- The idle block: no command in flight, no phase, nothing latched (70_reset_and_hazards.md R190, R192). -/
def Block.idle : Block := { command := none, phase := 0, latched := none }

/-- The sensor's registers in `State.reset`. The lock bits are 0 after power-on reset (10_state.md R41). Every other bit
is unspecified by the source. PRESUMED: the values 70_reset_and_hazards.md R192 gives from general knowledge of the real
part (CONFIG and the thresholds 0x0000, RESOLUTION 0x03); DESIGN CHOICE: TAMBIENT zero (log 3). Unsafe. -/
def Sensor.reset : Sensor :=
  { config := 0, tupper := 0, tlower := 0, tcrit := 0, tambient := 0, resolution := 0x03 }

/-- The bus port after reset: nothing issued, nothing scripted (log 2). -/
def Bus.reset : Bus := { script := [], issued := 0, trace := [] }

/-- The platform's constants in `State.reset`: DEV_ADDR, BUS_ID and EXCLUSIVE as the platform configured them (log 4),
`SENSOR_WRITE` the default that 00_scope.md R5 names (10_state.md R38; DESIGN CHOICE, log 5). -/
def Platform.reset : Platform := { Config.platform with sensorWrite := SensorWrite.default }

/-- The machine right after reset: the block idle, the platform's constants as configured, the sensor just powered on,
nothing presented yet (70_reset_and_hazards.md R190, R192). -/
def State.reset : State :=
  { platform := Platform.reset, block := Block.idle, resetAfter := none, sensor := Sensor.reset, bus := Bus.reset,
    turns := [], responses := [] }

end Sys2Proof.Machine
end

