-- ==== Sys2Proof/Machine/Operands.lean ====
section
/-! DEFINITION. The operand forms: the legal sets of `sel`, TVAL range, the codec functions on T13 and TVAL, field
packing and selection, and the field layout of the registers (00_scope.md R7, R9, R10; 10_state.md R25, R34;
40_codec.md R101 to R108; 30_encoding.md R85). -/

namespace Sys2Proof.Machine

/-- Legal `sel` of SETTHR: 0, 1, 2 (30_encoding.md R85 b). -/
def legalThreshold (sel : Sel) : Bool := decide (sel.toNat ≤ 2)

/-- Legal `sel` of SETRES and SETHYST: 0 to 3 (30_encoding.md R85 b). -/
def legalCode (sel : Sel) : Bool := decide (sel.toNat ≤ 3)

/-- Legal `sel` of SETSHDN, SETCLK and SETWLK: 0, 1 (30_encoding.md R85 b). -/
def legalBoolean (sel : Sel) : Bool := decide (sel.toNat ≤ 1)

/-- `r = 0x02 + which`: 0 TUPPER, 1 TLOWER, 2 TCRIT (41_driver_temperature.md R122; 20_memory.md R71). Only called
with a legal `which`. -/
def thresholdReg (which : Sel) : WordReg :=
  if which = 0 then .tupper else if which = 1 then .tlower else .tcrit

/-- `traw`, the raw integer of a TVAL (00_scope.md R10). -/
def traw (t : Tval) : Int := t.toInt

/-- The range test: below −256.0 °C or above +255.9375 °C, on the value presented (40_codec.md R104). -/
def outOfRange (t : Tval) : Bool := decide (traw t < -16777216) || decide (16773120 < traw t)

/-- The `count` of DECT, by the algorithm of 40_codec.md R101: sign bit 12, data bits 11:0. -/
def dectCount (raw13 : Word) : Int :=
  let dataBits := raw13 &&& 0x0FFF
  if raw13.getLsbD 12 then -(((dataBits ^^^ 0x0FFF).toNat : Int) + 1) else (dataBits.toNat : Int)

/-- The data DECT returns: `count * 4096` as 32-bit two's complement (40_codec.md R101). -/
def dectData (raw13 : Word) : Tval := BitVec.ofInt 32 (dectCount raw13 * 4096)

/-- The `m` of ENCT: whole counts of the magnitude, truncated (40_codec.md R103). -/
def enctMagnitude (t : Tval) : Nat := (traw t).natAbs / 4096

/-- The `enc` of ENCT for a TVAL in range; bits 15:13 are 0 (40_codec.md R103). -/
def enctWord (t : Tval) : Word :=
  let m := enctMagnitude t
  BitVec.ofNat 16 (if traw t < 0 then ((m ^^^ 0x1FFF) + 1) % 8192 else m)

/-- PACKF on 16-bit words (40_codec.md R106; 00_scope.md R7). -/
def packField (current mask : Word) (shift : Sel) (value : Word) : Word :=
  (current &&& ~~~mask) ||| ((value <<< shift.toNat) &&& mask)

/-- SELF on 16-bit words (40_codec.md R108). -/
def selectField (word mask : Word) (shift : Sel) : Word := (word &&& mask) >>> shift.toNat

/-- A 16-bit result as response data, `zext_32` (30_encoding.md R88). -/
def zext32 (w : Word) : BitVec 32 := w.setWidth 32

/-- `sel` as a word operand of a pack (30_encoding.md R89). -/
def selWord (sel : Sel) : Word := sel.setWidth 16

/-- A field of a 16-bit register: in-place mask and shift (10_state.md R25). -/
structure Field where
  mask : Word
  shift : Sel
deriving DecidableEq, Repr

/-- CONFIG[0] (10_state.md R25). -/
def alertModeField : Field := { mask := 0x0001, shift := 0 }
/-- CONFIG[1] (10_state.md R25). -/
def alertPolField : Field := { mask := 0x0002, shift := 1 }
/-- CONFIG[2] (10_state.md R25). -/
def alertSelField : Field := { mask := 0x0004, shift := 2 }
/-- CONFIG[3] (10_state.md R25). -/
def alertCntField : Field := { mask := 0x0008, shift := 3 }
/-- CONFIG[4] (10_state.md R25, R28). -/
def alertStatField : Field := { mask := 0x0010, shift := 4 }
/-- CONFIG[5] (10_state.md R25, R29). -/
def intClrField : Field := { mask := 0x0020, shift := 5 }
/-- CONFIG[6] (10_state.md R25, R32). -/
def winLockField : Field := { mask := 0x0040, shift := 6 }
/-- CONFIG[7] (10_state.md R25, R32). -/
def critLockField : Field := { mask := 0x0080, shift := 7 }
/-- CONFIG[8] (10_state.md R25). -/
def shdnField : Field := { mask := 0x0100, shift := 8 }
/-- CONFIG[10:9] (10_state.md R25, R31). -/
def tHystField : Field := { mask := 0x0600, shift := 9 }
/-- CONFIG[15:11], preserved by the block (10_state.md R25, R26). -/
def reservedField : Field := { mask := 0xF800, shift := 11 }
/-- CONFIG[3:0], the four alert bits SETALRT replaces together (42_driver_config.md R146). -/
def alertBitsField : Field := { mask := 0x000F, shift := 0 }
/-- TAMBIENT[12:0] (10_state.md R34). -/
def taField : Field := { mask := 0x1FFF, shift := 0 }
/-- TAMBIENT[15:13] (10_state.md R34). -/
def cmpFlagsField : Field := { mask := 0xE000, shift := 13 }

/-- The fields of CONFIG, from bit 0 up (10_state.md R25). -/
def configFields : List Field :=
  [alertModeField, alertPolField, alertSelField, alertCntField, alertStatField, intClrField, winLockField,
    critLockField, shdnField, tHystField, reservedField]

/-- The fields of TAMBIENT (10_state.md R34). -/
def tambientFields : List Field := [taField, cmpFlagsField]

/-- `packField` at a field. -/
def Field.pack (f : Field) (current value : Word) : Word := packField current f.mask f.shift value

/-- `selectField` at a field. -/
def Field.select (f : Field) (word : Word) : Word := selectField word f.mask f.shift

end Sys2Proof.Machine
end

