-- ==== Sys2Proof/Machine/Flags.lean ====
section
/-! DEFINITION. The status-like values of the system. The block has no condition codes (10_state.md R37): what there
is are the sensor's comparison flags and alert bit, which GETALRT reads, and the status of a response. The lock bits are
in Sensor.lean. -/

namespace Sys2Proof.Machine

/-- CMP_FLAGS, TAMBIENT[15:13], uninterpreted (10_state.md R34, R35; 42_driver_config.md R147). -/
def cmpFlags (ta : Word) : Word := cmpFlagsField.select ta

/-- ALERT_STAT, CONFIG[4], uninterpreted (10_state.md R28; 42_driver_config.md R147). -/
def alertActive (cfg : Word) : Word := alertStatField.select cfg

/-- The data GETALRT returns: `zext_32({flags[2:0], active})` (30_encoding.md R88; 42_driver_config.md R147). -/
def alertData (flags active : Word) : BitVec 32 :=
  ((flags.extractLsb' 0 3) ++ (active.extractLsb' 0 1)).setWidth 32

/-- The status names of a response (30_encoding.md R87). -/
inductive Status where
  | ok | transportError | rangeError | invalidConfiguration | invalidCommand
deriving DecidableEq, Repr

/-- The 3-bit status codes (30_encoding.md R87). -/
def Status.code : Status → BitVec 3
  | .ok => 0
  | .transportError => 1
  | .rangeError => 2
  | .invalidConfiguration => 3
  | .invalidCommand => 4

/-- The status of each error kind (60_exceptions.md R170). -/
def CommandError.status : CommandError → Status
  | .transportError _ => .transportError
  | .rangeError _ => .rangeError
  | .invalidConfiguration _ => .invalidConfiguration
  | .invalidCommand => .invalidCommand

/-- The status of a response (30_encoding.md R86, R87). -/
def Response.status : Response → Status
  | .ok _ => .ok
  | .error kind => kind.status

/-- The data of a response: none unless the status is OK (30_encoding.md R86). -/
def Response.data : Response → Option (BitVec 32)
  | .ok data => some data
  | .error _ => none

end Sys2Proof.Machine
end

