-- ==== Sys2Proof/Machine/Sensor.lean ====
section
/-! DEFINITION. The sensor as the block sees it: reading and writing its registers, its own steps, power-on reset, and
the transactions of other masters (10_state.md R24 to R41; 20_memory.md R59 to R64). -/

namespace Sys2Proof.Machine

/-- The register pointer of each word register (10_state.md R24). -/
def WordReg.pointer : WordReg → Byte
  | .config => 0x01
  | .tupper => 0x02
  | .tlower => 0x03
  | .tcrit => 0x04
  | .tambient => 0x05

/-- The register pointer of RESOLUTION (10_state.md R24). -/
def resolutionPointer : Byte := 0x08

/-- The word register at a pointer, if there is one (20_memory.md R63). -/
def WordReg.ofPointer (pointer : Byte) : Option WordReg :=
  if pointer = 0x01 then some .config
  else if pointer = 0x02 then some .tupper
  else if pointer = 0x03 then some .tlower
  else if pointer = 0x04 then some .tcrit
  else if pointer = 0x05 then some .tambient
  else none

/-- `S[r]` (10_state.md R39: a read returns the value the sensor holds and changes nothing). -/
def Sensor.word (sensor : Sensor) : WordReg → Word
  | .config => sensor.config
  | .tupper => sensor.tupper
  | .tlower => sensor.tlower
  | .tcrit => sensor.tcrit
  | .tambient => sensor.tambient

/-- `S[r] <- v` (00_scope.md R8). -/
def Sensor.setWord (sensor : Sensor) (r : WordReg) (v : Word) : Sensor :=
  match r with
  | .config => { sensor with config := v }
  | .tupper => { sensor with tupper := v }
  | .tlower => { sensor with tlower := v }
  | .tcrit => { sensor with tcrit := v }
  | .tambient => { sensor with tambient := v }

/-- WIN_LOCK, CONFIG[6] (10_state.md R32). -/
def Sensor.winLock (sensor : Sensor) : Bool := sensor.config.getLsbD 6

/-- CRIT_LOCK, CONFIG[7] (10_state.md R32). -/
def Sensor.critLock (sensor : Sensor) : Bool := sensor.config.getLsbD 7

/-- What CONFIG becomes when `v` is written over `old` and nothing is kept: bit 4 is not writable, bits 6 and 7 are
set-only, the rest is stored (10_state.md R38). -/
def configWrite (old v : Word) : Word := (v &&& 0xFFEF) ||| (old &&& 0x00D0)

/-- The default `SensorWrite(r, old, v)` for the word registers (10_state.md R38). -/
def defaultWrite (r : WordReg) (old v : Word) : Word :=
  match r with
  | .config => configWrite old v
  | .tupper => v
  | .tlower => v
  | .tcrit => v
  | .tambient => old

/-- The kept bits of a word register. -/
def KeptBits.word (kept : KeptBits) : WordReg → Word
  | .config => kept.config
  | .tupper => kept.tupper
  | .tlower => kept.tlower
  | .tcrit => kept.tcrit
  | .tambient => 0

/-- The bits of a word register that a write leaves as they are, with the lock bits as the sensor holds them before the
write (70_reset_and_hazards.md R208; log 5). -/
def keptWord (how : SensorWrite) (sensor : Sensor) (r : WordReg) : Word :=
  how.always.word r ||| (if sensor.winLock then how.whileWinLock.word r else 0) |||
    (if sensor.critLock then how.whileCritLock.word r else 0)

/-- The bits of RESOLUTION that a write leaves as they are (70_reset_and_hazards.md R208; log 5). -/
def keptByte (how : SensorWrite) (sensor : Sensor) : Byte :=
  how.always.resolution ||| (if sensor.winLock then how.whileWinLock.resolution else 0) |||
    (if sensor.critLock then how.whileCritLock.resolution else 0)

/-- `SensorWrite(r, S[r], v)` for the word registers: the default, but for the kept bits (10_state.md R38;
70_reset_and_hazards.md R208; log 5). The lock bits stay monotone whatever is kept. -/
def sensorWrite (how : SensorWrite) (sensor : Sensor) (r : WordReg) (v : Word) : Word :=
  (defaultWrite r (sensor.word r) v &&& ~~~keptWord how sensor r) ||| (sensor.word r &&& keptWord how sensor r)

/-- `SensorWrite(0x08, S[0x08], v)` (10_state.md R38; 70_reset_and_hazards.md R208). -/
def sensorWriteByte (how : SensorWrite) (sensor : Sensor) (v : Byte) : Byte :=
  (v &&& ~~~keptByte how sensor) ||| (sensor.resolution &&& keptByte how sensor)

/-- What a successful word write does: `S[r] <- SensorWrite(r, S[r], v)` (20_memory.md R57). -/
def Sensor.storeWord (sensor : Sensor) (how : SensorWrite) (r : WordReg) (v : Word) : Sensor :=
  sensor.setWord r (sensorWrite how sensor r v)

/-- What a successful byte write to RESOLUTION does (20_memory.md R56; 10_state.md R38). -/
def Sensor.storeByte (sensor : Sensor) (how : SensorWrite) (v : Byte) : Sensor :=
  { sensor with resolution := sensorWriteByte how sensor v }

/-- The sensor's own steps (10_state.md R40). SensorIntClrDone is enabled when CONFIG[5] = 1; where it is not enabled
the step does nothing. -/
def sensorStep (step : SensorStep) (sensor : Sensor) : Sensor :=
  match step with
  | .measure value => { sensor with tambient := value }
  | .alert active =>
    { sensor with config := (sensor.config &&& 0xFFEF) ||| (if active then 0x0010 else 0x0000) }
  | .intClrDone => { sensor with config := sensor.config &&& 0xFFDF }

/-- PowerOnReset: `S[0x01][7:6] <- 0b00`, every other bit of every register as drawn (10_state.md R41). -/
def powerOnReset (drawn : Sensor) : Sensor := { drawn with config := drawn.config &&& 0xFF3F }

/-- A transaction of another master (10_state.md R20, R39; 20_memory.md R57). -/
def masterTxn (how : SensorWrite) (txn : MasterTxn) (sensor : Sensor) : Sensor :=
  match txn with
  | .readWord _ => sensor
  | .writeWord r value => sensor.storeWord how r value
  | .readByte => sensor
  | .writeByte value => sensor.storeByte how value

/-- One step of another agent. With `EXCLUSIVE` true there is no other master: its step cannot occur and does nothing
(70_reset_and_hazards.md R196; log 14). -/
def agentStep (platform : Platform) (sensor : Sensor) (step : AgentStep) : Sensor :=
  match step with
  | .sensor step => sensorStep step sensor
  | .master txn => if platform.exclusive then sensor else masterTxn platform.sensorWrite txn sensor

/-- The steps other agents take between two transactions, in order (20_memory.md R61). -/
def agentSteps (platform : Platform) (steps : List AgentStep) (sensor : Sensor) : Sensor :=
  steps.foldl (agentStep platform) sensor

end Sys2Proof.Machine
end

