-- ==== Sys2Proof/Machine/Ops.lean ====
section
/-! DEFINITION. The shared operations of every command: the response, raising an error, the phases and a reset between
them, the raw and the normalized bus primitives, and the read-modify-write of CONFIG (20_memory.md R50 to R57;
30_encoding.md R86, R93; 60_exceptions.md R176; 70_reset_and_hazards.md R190; 42_driver_config.md R140). -/

namespace Sys2Proof.Machine

/-- `swap16(w)` = `{w[7:0], w[15:8]}` (00_scope.md R8). -/
def swap16 (w : Word) : Word := w.extractLsb' 0 8 ++ w.extractLsb' 8 8

/-- The state with other sensor registers. -/
def State.withSensor (s : State) (sensor : Sensor) : State := { s with sensor := sensor }

/-- `RSP <- (st, d)`: the command ends with this response and the block is idle again; what it held for the command is
discarded (00_scope.md R8; 30_encoding.md R86; 10_state.md R23 c). -/
def respond (r : Response) (s : State) : State :=
  { s with block := Block.idle, resetAfter := none, responses := r :: s.responses }

/-- `raise E(info)`: the command ends at once with the error's status and no data; nothing else changes
(60_exceptions.md R176). There is no return from an error: the block is idle (R177). -/
def raise (kind : CommandError) (s : State) : State := respond (.error kind) s

/-- A reset of the block: a command in flight is abandoned without a response; the sensor and the transactions already
issued are left as they are (70_reset_and_hazards.md R190). -/
def abandon (s : State) : State := { s with block := Block.idle, resetAfter := none }

/-- Phase 0, the check phase, with nothing latched (30_encoding.md R93; 10_state.md R22). -/
def startCheck (s : State) : State := { s with block := { s.block with phase := 0, latched := none } }

/-- The phase advances by one (10_state.md R22). -/
def enterPhase (s : State) : State := { s with block := { s.block with phase := s.block.phase + 1 } }

/-- The value returned by the first transaction is latched (10_state.md R23 c). -/
def latch (w : Word) (s : State) : State := { s with block := { s.block with latched := some w } }

/-- The current phase is over: a reset of the block that arrives after it abandons the command, else the command goes
on (70_reset_and_hazards.md R190; log 8). -/
def endPhase (k : State → State) (s : State) : State :=
  if s.resetAfter = some s.block.phase then abandon s else k s

/-- The check phase. It does nothing but raise, so a reset that arrives in it comes before everything else the command
does (30_encoding.md R93; 70_reset_and_hazards.md R190; log 8). -/
def checkPhase (k : State → State) (s : State) : State := endPhase k (startCheck s)

/-- A check of the check phase: `InvalidConfiguration` when `sel` is illegal (30_encoding.md R85 b, R93). -/
def checkSel (legal : Bool) (sel : Sel) (k : State → State) (s : State) : State :=
  if legal then k s else raise (.invalidConfiguration sel) s

/-- A check of the check phase: `RangeError` when the TVAL is out of range (40_codec.md R104; 30_encoding.md R93). -/
def checkRange (t : Tval) (k : State → State) (s : State) : State :=
  if outOfRange t then raise (.rangeError t) s else k s

/-- What the k-th coming transaction meets: the script's entry, or the free value past its end (log 2). -/
def State.inputAt (s : State) (k : Nat) : TxnInput := (s.bus.script[k]?).getD (Config.freeTxn (s.bus.issued + k))

/-- The next transaction's input is used up. -/
def State.takeInput (s : State) : State :=
  { s with bus := { s.bus with script := s.bus.script.tail, issued := s.bus.issued + 1 } }

/-- What the sensor holds when the next transaction reaches it: the other agents have taken their steps
(20_memory.md R61). -/
def State.sensorAtNext (s : State) : Sensor := agentSteps s.platform (s.inputAt 0).before s.sensor

/-- The next transaction is about to happen: its input is taken and the other agents have moved. -/
def State.arrive (s : State) : State := s.takeInput.withSensor s.sensorAtNext

/-- One transaction appears on the bus port, at `DEV_ADDR` (20_memory.md R71) and in the current phase. -/
def State.record (s : State) (op : BusOp) : State :=
  { s with bus := { s.bus with
      trace := { addr := s.platform.devAddr, phase := s.block.phase, op := op } :: s.bus.trace } }

/-- How a raw primitive comes back to the block: with a value or with a failure (20_memory.md R51). -/
inductive Reply (α : Type) where
  | value (v : α)
  | failed
deriving DecidableEq, Repr

/-- `RawReadWord(r)`: on success the raw word, the byte swap of the register value (20_memory.md R52). A failed read
returns nothing and changes nothing (R64). -/
def rawReadWord (r : WordReg) (s : State) : Reply Word × State :=
  let raw := swap16 (s.sensorAtNext.word r)
  match (s.inputAt 0).fate with
  | .succeeds => (.value raw, s.arrive.record (.rd16 r.pointer (some raw)))
  | .fails _ => (.failed, s.arrive.record (.rd16 r.pointer none))
  | .powerOnReset drawn => (.failed, (s.arrive.withSensor (powerOnReset drawn)).record (.rd16 r.pointer none))

/-- `RawReadByte(r)` of RESOLUTION, the one register accessed by byte (20_memory.md R50, R60). The block never calls
it; it is part of the port. -/
def rawReadByte (s : State) : Reply Byte × State :=
  let value := s.sensorAtNext.resolution
  match (s.inputAt 0).fate with
  | .succeeds => (.value value, s.arrive.record (.rd8 resolutionPointer (some value)))
  | .fails _ => (.failed, s.arrive.record (.rd8 resolutionPointer none))
  | .powerOnReset drawn => (.failed, (s.arrive.withSensor (powerOnReset drawn)).record (.rd8 resolutionPointer none))

/-- `RawWriteWord(r, raw)`: on success the sensor stores `swap16(raw)` (20_memory.md R52). After a failed write the
register is old or new (R64). -/
def rawWriteWord (r : WordReg) (raw : Word) (s : State) : Reply Unit × State :=
  let stored := s.sensorAtNext.storeWord s.platform.sensorWrite r (swap16 raw)
  match (s.inputAt 0).fate with
  | .succeeds => (.value (), (s.arrive.withSensor stored).record (.wr16 r.pointer raw true))
  | .fails true => (.failed, (s.arrive.withSensor stored).record (.wr16 r.pointer raw false))
  | .fails false => (.failed, s.arrive.record (.wr16 r.pointer raw false))
  | .powerOnReset drawn => (.failed, (s.arrive.withSensor (powerOnReset drawn)).record (.wr16 r.pointer raw false))

/-- `RawWriteByte(r, v)` to RESOLUTION; a byte is not swapped (20_memory.md R52, R56). -/
def rawWriteByte (value : Byte) (s : State) : Reply Unit × State :=
  let stored := s.sensorAtNext.storeByte s.platform.sensorWrite value
  match (s.inputAt 0).fate with
  | .succeeds => (.value (), (s.arrive.withSensor stored).record (.wr8 resolutionPointer value true))
  | .fails true => (.failed, (s.arrive.withSensor stored).record (.wr8 resolutionPointer value false))
  | .fails false => (.failed, s.arrive.record (.wr8 resolutionPointer value false))
  | .powerOnReset drawn =>
    (.failed, (s.arrive.withSensor (powerOnReset drawn)).record (.wr8 resolutionPointer value false))

/-- What a command does with the reply, unless a reset of the block comes first: go on with the value, or raise
`TransportError(r)` (60_exceptions.md R171; 70_reset_and_hazards.md R190). -/
def afterReply {α : Type} (pointer : Byte) (k : α → State → State) : Reply α × State → State
  | (.value v, s) => endPhase (k v) s
  | (.failed, s) => endPhase (raise (.transportError pointer)) s

/-- `MemRead(r, 2)`, in the next phase (20_memory.md R53). -/
def memReadWord (r : WordReg) (k : Word → State → State) (s : State) : State :=
  afterReply r.pointer (fun raw => k (swap16 raw)) (rawReadWord r (enterPhase s))

/-- `MemRead(0x08, 1)`; no command uses it (20_memory.md R55). -/
def memReadByte (k : Byte → State → State) (s : State) : State :=
  afterReply resolutionPointer k (rawReadByte (enterPhase s))

/-- `MemWrite(r, 2, v)`, in the next phase (20_memory.md R54). -/
def memWriteWord (r : WordReg) (v : Word) (k : State → State) (s : State) : State :=
  afterReply r.pointer (fun _ => k) (rawWriteWord r (swap16 v) (enterPhase s))

/-- `MemWrite(0x08, 1, v)`, in the next phase (20_memory.md R56). -/
def memWriteByte (v : Byte) (k : State → State) (s : State) : State :=
  afterReply resolutionPointer (fun _ => k) (rawWriteByte v (enterPhase s))

/-- `RMW(modify)` of CONFIG: the write is issued even when nothing changes, and only after a successful read
(42_driver_config.md R140). -/
def rmwConfig (modify : Word → Word) (s : State) : State :=
  memReadWord .config
    (fun cfg s1 => memWriteWord .config (modify cfg) (respond (.ok 0)) (latch cfg s1)) s

end Sys2Proof.Machine
end

