-- ==== Sys2Proof/Machine/Codec.lean ====
section
/-! DEFINITION. The codec commands DECT, ENCT, PACKF and SELF: functions of the command word alone, without a bus
transaction (40_codec.md R100 to R112). -/

namespace Sys2Proof.Machine

/-- DECT (40_codec.md R101). -/
def execDect (raw13 : Word) (s : State) : Host.Outcome State Fault Refusal :=
  .next (checkPhase (respond (.ok (dectData raw13))) s)

/-- ENCT (40_codec.md R103, R104). -/
def execEnct (t : Tval) (s : State) : Host.Outcome State Fault Refusal :=
  .next (checkPhase (checkRange t (respond (.ok (zext32 (enctWord t))))) s)

/-- PACKF (40_codec.md R106). -/
def execPackf (current mask : Word) (shift : Sel) (value : Word) (s : State) : Host.Outcome State Fault Refusal :=
  .next (checkPhase (respond (.ok (zext32 (packField current mask shift value)))) s)

/-- SELF (40_codec.md R108). -/
def execSelf (word mask : Word) (shift : Sel) (s : State) : Host.Outcome State Fault Refusal :=
  .next (checkPhase (respond (.ok (zext32 (selectField word mask shift)))) s)

end Sys2Proof.Machine
end

