-- ==== Sys2Proof/Machine/DriverConfig.lean ====
section
/-! DEFINITION. The driver commands on CONFIG: six read-modify-writes and GETALRT (42_driver_config.md). -/

namespace Sys2Proof.Machine

/-- The `modify` of SETHYST (42_driver_config.md R141). -/
def modifyHyst (code : Sel) (cfg : Word) : Word := tHystField.pack cfg (selWord code)

/-- The `modify` of SETSHDN (42_driver_config.md R142). -/
def modifyShdn (flag : Sel) (cfg : Word) : Word := shdnField.pack cfg (selWord flag)

/-- The `modify` of SETCLK: the value packed is the argument OR the bit as read (42_driver_config.md R143, R145). -/
def modifyCritLock (flag : Sel) (cfg : Word) : Word :=
  critLockField.pack cfg (selWord flag ||| critLockField.select cfg)

/-- The `modify` of SETWLK (42_driver_config.md R144, R145). -/
def modifyWinLock (flag : Sel) (cfg : Word) : Word :=
  winLockField.pack cfg (selWord flag ||| winLockField.select cfg)

/-- The `modify` of SETALRT: the four bits together (42_driver_config.md R146). -/
def modifyAlerts (sel : Sel) (cfg : Word) : Word := alertBitsField.pack cfg (selWord sel)

/-- The `modify` of CLRINT (42_driver_config.md R148). -/
def modifyIntClr (cfg : Word) : Word := cfg ||| 0x0020

/-- SETHYST (42_driver_config.md R141). -/
def execSethyst (code : Sel) (s : State) : Host.Outcome State Fault Refusal :=
  .next (checkPhase (checkSel (legalCode code) code (rmwConfig (modifyHyst code))) s)

/-- SETSHDN (42_driver_config.md R142). -/
def execSetshdn (flag : Sel) (s : State) : Host.Outcome State Fault Refusal :=
  .next (checkPhase (checkSel (legalBoolean flag) flag (rmwConfig (modifyShdn flag))) s)

/-- SETCLK (42_driver_config.md R143). -/
def execSetclk (flag : Sel) (s : State) : Host.Outcome State Fault Refusal :=
  .next (checkPhase (checkSel (legalBoolean flag) flag (rmwConfig (modifyCritLock flag))) s)

/-- SETWLK (42_driver_config.md R144). -/
def execSetwlk (flag : Sel) (s : State) : Host.Outcome State Fault Refusal :=
  .next (checkPhase (checkSel (legalBoolean flag) flag (rmwConfig (modifyWinLock flag))) s)

/-- SETALRT: `sel` is `{en, selbit, pol, mode}` (42_driver_config.md R146; 30_encoding.md R91); every `sel` is legal. -/
def execSetalrt (enabled select polarity mode : Bool) (s : State) : Host.Outcome State Fault Refusal :=
  .next (checkPhase (rmwConfig (modifyAlerts (alertSel enabled select polarity mode))) s)

/-- GETALRT: read 0x05 then 0x01; nothing is written (42_driver_config.md R147). -/
def execGetalrt (s : State) : Host.Outcome State Fault Refusal :=
  .next (checkPhase (memReadWord .tambient
    (fun ta s1 => memReadWord .config
      (fun cfg => respond (.ok (alertData (cmpFlags ta) (alertActive cfg)))) (latch ta s1))) s)

/-- CLRINT: exactly a read and a write of CONFIG (42_driver_config.md R148). -/
def execClrint (s : State) : Host.Outcome State Fault Refusal :=
  .next (checkPhase (rmwConfig modifyIntClr) s)

end Sys2Proof.Machine
end

