-- ==== Sys2Proof/Machine/DriverTemperature.lean ====
section
/-! DEFINITION. The driver commands RDTEMP, SETTHR and SETRES: one transaction each (41_driver_temperature.md). -/

namespace Sys2Proof.Machine

/-- RDTEMP: read word 0x05, mask off bits 15:13, decode (41_driver_temperature.md R121). -/
def execRdtemp (s : State) : Host.Outcome State Fault Refusal :=
  .next (checkPhase (memReadWord .tambient (fun w => respond (.ok (dectData (w &&& 0x1FFF))))) s)

/-- SETTHR: encode, write word 0x02 + which; errors in the order of 41_driver_temperature.md R122, R123. -/
def execSetthr (which : Sel) (t : Tval) (s : State) : Host.Outcome State Fault Refusal :=
  .next (checkPhase (checkSel (legalThreshold which) which
    (checkRange t (memWriteWord (thresholdReg which) (enctWord t) (respond (.ok 0))))) s)

/-- SETRES: write byte 0x08, the whole byte (41_driver_temperature.md R124). -/
def execSetres (code : Sel) (s : State) : Host.Outcome State Fault Refusal :=
  .next (checkPhase (checkSel (legalCode code) code
    (memWriteByte ((code.extractLsb' 0 2).setWidth 8) (respond (.ok 0)))) s)

end Sys2Proof.Machine
end

