-- ==== Sys2Proof/Machine/Reserved.lean ====
section
/-! DEFINITION. The two reserved opcodes: the command ends in the check phase with `InvalidCommand`
(30_encoding.md R84; 60_exceptions.md R174). -/

namespace Sys2Proof.Machine

/-- Opcode 0xE (30_encoding.md R84). -/
def execReservedE (s : State) : Host.Outcome State Fault Refusal := .next (checkPhase (raise .invalidCommand) s)

/-- Opcode 0xF (30_encoding.md R84). -/
def execReservedF (s : State) : Host.Outcome State Fault Refusal := .next (checkPhase (raise .invalidCommand) s)

end Sys2Proof.Machine
end

