-- ==== Sys2Proof/Machine/Dispatch.lean ====
section
/-! DEFINITION. One arm per command (30_encoding.md R83). -/

namespace Sys2Proof.Machine

def exec (i : Instr) (s : State) : Host.Outcome State Fault Refusal :=
  match i with
  -- codec commands, 40_codec.md
  | .dect raw13 => Sys2Proof.Machine.execDect raw13 s
  | .enct t => Sys2Proof.Machine.execEnct t s
  | .packf current mask shift value => Sys2Proof.Machine.execPackf current mask shift value s
  | .self word mask shift => Sys2Proof.Machine.execSelf word mask shift s
  -- driver commands, 41_driver_temperature.md
  | .rdtemp => Sys2Proof.Machine.execRdtemp s
  | .setthr which t => Sys2Proof.Machine.execSetthr which t s
  | .setres code => Sys2Proof.Machine.execSetres code s
  -- driver commands on CONFIG, 42_driver_config.md
  | .sethyst code => Sys2Proof.Machine.execSethyst code s
  | .setshdn flag => Sys2Proof.Machine.execSetshdn flag s
  | .setclk flag => Sys2Proof.Machine.execSetclk flag s
  | .setwlk flag => Sys2Proof.Machine.execSetwlk flag s
  | .setalrt enabled select polarity mode => Sys2Proof.Machine.execSetalrt enabled select polarity mode s
  | .getalrt => Sys2Proof.Machine.execGetalrt s
  | .clrint => Sys2Proof.Machine.execClrint s
  -- reserved opcodes, 30_encoding.md R84
  | .reservedE => Sys2Proof.Machine.execReservedE s
  | .reservedF => Sys2Proof.Machine.execReservedF s

end Sys2Proof.Machine
end

