-- ==== Sys2Proof/Machine/Turns.lean ====
section
/-! DEFINITION. What happens while the block is idle: a command is accepted, another agent moves, the sensor or the
block is reset (10_state.md R20, R40, R41; 20_memory.md R50, R59; 70_reset_and_hazards.md R190, R207). -/

namespace Sys2Proof.Machine

/-- No command is in flight (10_state.md R23 c). -/
def State.isIdle (s : State) : Bool := s.block.command.isNone

/-- The command word is latched and the check phase begins (10_state.md R22, R23 c); the reset that arrives while it is
in flight, if any, is the turn's (log 8). -/
def acceptCommand (word : Command) (resetAfter : Option Nat) (s : State) : State :=
  { s with block := { command := some word, phase := 0, latched := none }, resetAfter := resetAfter }

/-- A transport primitive of another master at a register pointer, on the sensor's registers. A byte access to a word
register and a word access to RESOLUTION are refused (20_memory.md R59); so is a pointer without a register
(10_state.md R27). A word on this port is the raw transport word (20_memory.md R52). -/
def accessTxn (pointer : Byte) (primitive : BusPrimitive) : Except Refusal MasterTxn :=
  match WordReg.ofPointer pointer, primitive with
  | some r, .readWord => .ok (.readWord r)
  | some r, .writeWord raw => .ok (.writeWord r (swap16 raw))
  | some _, .readByte => .error .widthMismatch
  | some _, .writeByte _ => .error .widthMismatch
  | none, primitive =>
    if pointer = resolutionPointer then
      match primitive with
      | .readByte => .ok .readByte
      | .writeByte value => .ok (.writeByte value)
      | .readWord => .error .widthMismatch
      | .writeWord _ => .error .widthMismatch
    else .error .noRegister

/-- Another master's access while the block is idle; with `EXCLUSIVE` true it does not occur (log 14). -/
def masterAccess (pointer : Byte) (primitive : BusPrimitive) (s : State) : Host.Outcome State Fault Refusal :=
  if s.platform.exclusive then .next s
  else
    match accessTxn pointer primitive with
    | .ok txn => .next (s.withSensor (masterTxn s.platform.sensorWrite txn s.sensor))
    | .error reason => .refused reason

/-- A step of the sensor's own (10_state.md R40). -/
def sensorTurn (step : SensorStep) (s : State) : State := s.withSensor (sensorStep step s.sensor)

/-- PowerOnReset while the block is idle; in mid-command it is not a turn but a transaction's fate
(10_state.md R41; log 7). -/
def powerOnResetTurn (drawn : Sensor) (s : State) : Host.Outcome State Fault Refusal :=
  if s.isIdle then .next (s.withSensor (powerOnReset drawn)) else .refused .blockBusy

/-- The state with the first turn taken away. -/
def State.takeTurn (s : State) : State := { s with turns := s.turns.tail }

/-- A word as the host presents it, 56 bits (30_encoding.md R80): the number's bits above `nbits` are zero. -/
def presentedWord (nbits w : Nat) : Command := BitVec.ofNat 56 (w % 2 ^ nbits)

/-- The block idle and this command the next turn, with no reset while it is in flight. -/
def presentNext (word : Command) (s : State) : State :=
  { s with block := Block.idle, turns := .command word none :: s.turns }

end Sys2Proof.Machine
end

