-- ==== Sys2Proof/Machine/Step.lean ====
section
/-! DEFINITION. One step: the next turn. A presented command runs whole, from its check phase to its response
(10_state.md R20, R23; 30_encoding.md R93; log 1). -/

namespace Sys2Proof.Machine

/-- The next turn. With none left nothing happens: the block waits for a command (70_reset_and_hazards.md R190). -/
def step (s : State) : Host.Outcome State Fault Refusal :=
  match s.turns with
  | [] => .next s
  | .command word resetAfter :: _ =>
    if s.isIdle then exec (decode word) (acceptCommand word resetAfter s.takeTurn) else .refused .blockBusy
  | .sensor action :: _ => .next (sensorTurn action s.takeTurn)
  | .access pointer primitive :: _ => masterAccess pointer primitive s.takeTurn
  | .powerOnReset drawn :: _ => powerOnResetTurn drawn s.takeTurn
  | .blockReset :: _ => .next (abandon s.takeTurn)

/-- The state whose very next step runs the command with these bits: commands come from the host, so the word is
presented as the next turn to an idle block (20_memory.md R69; log 9). -/
def State.withFetchWord (s : State) (nbits w : Nat) : State := presentNext (presentedWord nbits w) s

end Sys2Proof.Machine
end

