-- ==== Sys2Proof/Safety.lean ====
section
/-! DEFINITION. The terms claims are stated in: what a finished, an abandoned and an uninterrupted command is, what a
trace the block may leave is, and what a run without power-on reset is. -/

namespace Sys2Proof.Machine

/-- No command in flight and nothing left over from one (70_reset_and_hazards.md R192). -/
abbrev State.Idle (s : State) : Prop := s.block = Block.idle

/-- The k-th coming transaction succeeds. -/
abbrev State.Succeeds (s : State) (k : Nat) : Prop := (s.inputAt k).fate = .succeeds

/-- The k-th coming transaction is a failure the transport reports (20_memory.md R51). -/
abbrev State.Fails (s : State) (k : Nat) (stored : Bool) : Prop := (s.inputAt k).fate = .fails stored

/-- No other agent moves before the k-th coming transaction. -/
abbrev State.Quiet (s : State) (k : Nat) : Prop := (s.inputAt k).before = []

/-- What the other agents make of a sensor before the k-th coming transaction (20_memory.md R61). -/
abbrev State.moved (s : State) (k : Nat) (sensor : Sensor) : Sensor :=
  agentSteps s.platform (s.inputAt k).before sensor

/-- No reset of the block arrives in phases 0 to `n` (70_reset_and_hazards.md R190; log 8). -/
abbrev State.NoResetThrough (s : State) (n : Nat) : Prop := ∀ k ≤ n, s.resetAfter ≠ some k

/-- The premise 70_reset_and_hazards.md R208 asks of a claim that a write took: `SENSOR_WRITE` is the default, or no
lock bit is set and nothing is kept in every state (log 5). -/
abbrev Sensor.TakesWrites (x : Sensor) (how : SensorWrite) : Prop :=
  how = SensorWrite.default ∨ (how.always = KeptBits.none ∧ x.winLock = false ∧ x.critLock = false)

/-- `SENSOR_WRITE` keeps this bit in a write on the sensor as it is: always, or because of a lock bit that is set
(70_reset_and_hazards.md R208; log 5). -/
abbrev SensorWrite.Keeps (how : SensorWrite) (x : Sensor) (bit : KeptBits → Bool) : Prop :=
  bit how.always = true ∨ (x.winLock = true ∧ bit how.whileWinLock = true) ∨
    (x.critLock = true ∧ bit how.whileCritLock = true)

/-- `t` is `s` after a command that used `n` transaction inputs, left these records (newest first) on the bus port and
this sensor, and answered `r`. It gives every field of `t`. -/
structure Finished (s t : State) (n : Nat) (records : List BusRecord) (sensor : Sensor) (r : Response) : Prop where
  platform : t.platform = s.platform
  block : t.block = Block.idle
  resetAfter : t.resetAfter = none
  sensor : t.sensor = sensor
  script : t.bus.script = s.bus.script.drop n
  issued : t.bus.issued = s.bus.issued + n
  trace : t.bus.trace = records ++ s.bus.trace
  turns : t.turns = s.turns
  responses : t.responses = r :: s.responses

/-- `t` is `s` after a command that a reset of the block abandoned: no response (70_reset_and_hazards.md R190). -/
structure Abandoned (s t : State) (n : Nat) (records : List BusRecord) (sensor : Sensor) : Prop where
  platform : t.platform = s.platform
  block : t.block = Block.idle
  resetAfter : t.resetAfter = none
  sensor : t.sensor = sensor
  script : t.bus.script = s.bus.script.drop n
  issued : t.bus.issued = s.bus.issued + n
  trace : t.bus.trace = records ++ s.bus.trace
  turns : t.turns = s.turns
  responses : t.responses = s.responses

/-- A command ended without touching the bus: no transaction, the sensor as it was, one response. -/
abbrev Answered (s t : State) (r : Response) : Prop := Finished s t 0 [] s.sensor r

/-- A transaction on the port of the block of `s`. -/
def State.seen (s : State) (phase : Nat) (op : BusOp) : BusRecord :=
  { addr := s.platform.devAddr, phase := phase, op := op }

/-- What a read-modify-write leaves when both transactions succeed: the word read is the one the sensor holds at the
first, the word written replaces CONFIG at the second, and both pass the port swapped
(42_driver_config.md R140; 20_memory.md R52). -/
def ReadModifyWrite (s t : State) (modify : Word → Word) : Prop :=
  let cfg := (s.moved 0 s.sensor).config
  Finished s t 2
    [s.seen 2 (.wr16 0x01 (swap16 (modify cfg)) true), s.seen 1 (.rd16 0x01 (some (swap16 cfg)))]
    ((s.moved 1 (s.moved 0 s.sensor)).storeWord s.platform.sensorWrite .config (modify cfg)) (.ok 0)

/-- What every read-modify-write command does in every state that no reset of the block cuts short
(42_driver_config.md R140): with both transactions successful it leaves `ReadModifyWrite`; when the read fails it
answers `TransportError` and issues no write; when the write fails it answers `TransportError` and CONFIG is old or new
as the transport had it (20_memory.md R64). -/
def RunsReadModifyWrite (i : Instr) (modify : Word → Word) : Prop :=
  ∀ s : State,
    (s.NoResetThrough 2 → s.Succeeds 0 → s.Succeeds 1 → ∃ t, exec i s = .next t ∧ ReadModifyWrite s t modify) ∧
    (∀ stored, s.NoResetThrough 1 → s.Fails 0 stored → ∃ t, exec i s = .next t ∧
      Finished s t 1 [s.seen 1 (.rd16 0x01 none)] (s.moved 0 s.sensor) (.error (.transportError 0x01))) ∧
    (∀ stored, s.NoResetThrough 2 → s.Succeeds 0 → s.Fails 1 stored → ∃ t, exec i s = .next t ∧
      Finished s t 2
        [s.seen 2 (.wr16 0x01 (swap16 (modify (s.moved 0 s.sensor).config)) false),
          s.seen 1 (.rd16 0x01 (some (swap16 (s.moved 0 s.sensor).config)))]
        (if stored then (s.moved 1 (s.moved 0 s.sensor)).storeWord s.platform.sensorWrite .config
            (modify (s.moved 0 s.sensor).config)
          else s.moved 1 (s.moved 0 s.sensor))
        (.error (.transportError 0x01)))

/-- The six read-modify-write commands, with operands inside their legal sets (42_driver_config.md R140). -/
def IsReadModifyWrite : Instr → Bool
  | .dect _ => false
  | .enct _ => false
  | .packf _ _ _ _ => false
  | .self _ _ _ => false
  | .rdtemp => false
  | .setthr _ _ => false
  | .setres _ => false
  | .sethyst code => decide (code.toNat ≤ 3)
  | .setshdn flag => decide (flag.toNat ≤ 1)
  | .setclk flag => decide (flag.toNat ≤ 1)
  | .setwlk flag => decide (flag.toNat ≤ 1)
  | .setalrt _ _ _ _ => true
  | .getalrt => false
  | .clrint => true
  | .reservedE => false
  | .reservedF => false

/-- The field mask of each read-modify-write command (42_driver_config.md R149). -/
def rmwMask : Instr → Word
  | .dect _ => 0
  | .enct _ => 0
  | .packf _ _ _ _ => 0
  | .self _ _ _ => 0
  | .rdtemp => 0
  | .setthr _ _ => 0
  | .setres _ => 0
  | .sethyst _ => 0x0600
  | .setshdn _ => 0x0100
  | .setclk _ => 0x0080
  | .setwlk _ => 0x0040
  | .setalrt _ _ _ _ => 0x000F
  | .getalrt => 0
  | .clrint => 0x0020
  | .reservedE => 0
  | .reservedF => 0

/-- A transaction the block may issue: its width and direction fit the pointer, TAMBIENT is never written, a threshold
is written with bits 15:13 zero and RESOLUTION with bits 7:2 zero (10_state.md R24, R27, R36; 20_memory.md R60;
41_driver_temperature.md R124). -/
def BusOp.allowed : BusOp → Bool
  | .rd8 _ _ => false
  | .rd16 pointer _ => pointer == 0x01 || pointer == 0x05
  | .wr8 pointer value _ => pointer == 0x08 && value.extractLsb' 2 6 == 0
  | .wr16 pointer raw _ =>
    pointer == 0x01 ||
      ((pointer == 0x02 || pointer == 0x03 || pointer == 0x04) && (swap16 raw).extractLsb' 13 3 == 0)

/-- A record the block may leave: its own bus address, phase 1 or 2, an allowed transaction
(20_memory.md R71; 10_state.md R22). -/
def BusRecord.allowed (devAddr : Nat) (r : BusRecord) : Bool :=
  r.addr == devAddr && (r.phase == 1 || r.phase == 2) && r.op.allowed

/-- The invariant of the machine: the block is idle between commands with no reset due, and every transaction on its
port was one it may issue. -/
structure State.Inv (s : State) : Prop where
  idle : s.Idle
  noReset : s.resetAfter = none
  trace : ∀ r ∈ s.bus.trace, r.allowed s.platform.devAddr = true

/-- The word registers a command may write; RESOLUTION is written by SETRES alone (20_memory.md R60). -/
def mayWriteWord : Instr → WordReg → Bool
  | .dect _, _ => false
  | .enct _, _ => false
  | .packf _ _ _ _, _ => false
  | .self _ _ _, _ => false
  | .rdtemp, _ => false
  | .setthr which _, r => which.toNat ≤ 2 && r.pointer == 0x02 + which.setWidth 8
  | .setres _, _ => false
  | .sethyst _, r => r == .config
  | .setshdn _, r => r == .config
  | .setclk _, r => r == .config
  | .setwlk _, r => r == .config
  | .setalrt _ _ _ _, r => r == .config
  | .getalrt, _ => false
  | .clrint, r => r == .config
  | .reservedE, _ => false
  | .reservedF, _ => false

/-- SETRES, the one command that writes RESOLUTION (20_memory.md R60). -/
def mayWriteResolution : Instr → Bool
  | .dect _ => false
  | .enct _ => false
  | .packf _ _ _ _ => false
  | .self _ _ _ => false
  | .rdtemp => false
  | .setthr _ _ => false
  | .setres _ => true
  | .sethyst _ => false
  | .setshdn _ => false
  | .setclk _ => false
  | .setwlk _ => false
  | .setalrt _ _ _ _ => false
  | .getalrt => false
  | .clrint => false
  | .reservedE => false
  | .reservedF => false

/-- The bits of the command word a command reads: the opcode and the fields 30_encoding.md R82 lists for it. -/
def readBits (op : BitVec 4) : Command :=
  if op = 0x0 then 0xF000000000FFFF
  else if op = 0x1 then 0xF00000FFFFFFFF
  else if op = 0x2 then 0xFFFFFFFFFFFFFF
  else if op = 0x3 then 0xFF0000FFFFFFFF
  else if op = 0x4 then 0xF0000000000000
  else if op = 0x5 then 0xFF0000FFFFFFFF
  else if op = 0xC then 0xF0000000000000
  else if op = 0xD then 0xF0000000000000
  else if op = 0xE then 0xF0000000000000
  else if op = 0xF then 0xF0000000000000
  else 0xFF000000000000

/-- The transaction was reported complete. -/
def BusOp.succeeded : BusOp → Bool
  | .rd8 _ value => value.isSome
  | .rd16 _ raw => raw.isSome
  | .wr8 _ _ ok => ok
  | .wr16 _ _ ok => ok

/-- The transaction is a write. -/
def BusOp.isWrite : BusOp → Bool
  | .rd8 _ _ => false
  | .rd16 _ _ => false
  | .wr8 _ _ _ => true
  | .wr16 _ _ _ => true

/-- The register pointer of the transaction. -/
def BusOp.pointer : BusOp → Byte
  | .rd8 pointer _ => pointer
  | .rd16 pointer _ => pointer
  | .wr8 pointer _ _ => pointer
  | .wr16 pointer _ _ => pointer

/-- The TVAL operand of a command that encodes one (40_codec.md R104). -/
def tvalOperand : Instr → Option Tval
  | .dect _ => none
  | .enct t => some t
  | .packf _ _ _ _ => none
  | .self _ _ _ => none
  | .rdtemp => none
  | .setthr _ t => some t
  | .setres _ => none
  | .sethyst _ => none
  | .setshdn _ => none
  | .setclk _ => none
  | .setwlk _ => none
  | .setalrt _ _ _ _ => none
  | .getalrt => none
  | .clrint => none
  | .reservedE => none
  | .reservedF => none

/-- The check phase of the command raises nothing (30_encoding.md R93). -/
def PassesChecks (i : Instr) : Prop :=
  (i ≠ .reservedE ∧ i ≠ .reservedF) ∧
  (∀ sel t, i = .setthr sel t → sel.toNat ≤ 2) ∧
  (∀ sel, i = .setres sel ∨ i = .sethyst sel → sel.toNat ≤ 3) ∧
  (∀ sel, i = .setshdn sel ∨ i = .setclk sel ∨ i = .setwlk sel → sel.toNat ≤ 1) ∧
  (∀ t, tvalOperand i = some t → -16777216 ≤ t.toInt ∧ t.toInt ≤ 16773120)

/-- How many transactions a command issues when none fails (20_memory.md R60). -/
def transactionCount : Instr → Nat
  | .dect _ => 0
  | .enct _ => 0
  | .packf _ _ _ _ => 0
  | .self _ _ _ => 0
  | .rdtemp => 1
  | .setthr _ _ => 1
  | .setres _ => 1
  | .sethyst _ => 2
  | .setshdn _ => 2
  | .setclk _ => 2
  | .setwlk _ => 2
  | .setalrt _ _ _ _ => 2
  | .getalrt => 2
  | .clrint => 2
  | .reservedE => 0
  | .reservedF => 0

/-- The turn is a power-on reset of the sensor. -/
def Turn.isPowerOnReset : Turn → Bool
  | .command _ _ => false
  | .sensor _ => false
  | .access _ _ => false
  | .powerOnReset _ => true
  | .blockReset => false

/-- The transaction's fate is a power-on reset of the sensor. -/
def Fate.isPowerOnReset : Fate → Bool
  | .succeeds => false
  | .fails _ => false
  | .powerOnReset _ => true

/-- A reset of the block meets the command while it is in flight: in its check phase, or at the end of a transaction
it issues, whether that succeeded or failed (70_reset_and_hazards.md R190). -/
def MeetsReset (i : Instr) (s : State) : Prop :=
  s.resetAfter = some 0 ∨
  (PassesChecks i ∧ 0 < transactionCount i ∧ s.resetAfter = some 1) ∨
  (PassesChecks i ∧ transactionCount i = 2 ∧ s.Succeeds 0 ∧ s.resetAfter = some 2)

/-- None of the next `n` turns, and none of the transactions they can issue (at most two each), is a power-on reset of
the sensor. -/
structure State.NoPowerOnReset (s : State) (n : Nat) : Prop where
  turns : ∀ k < n, ∀ turn, s.turns[k]? = some turn → turn.isPowerOnReset = false
  transactions : ∀ k < 2 * n, (s.inputAt k).fate.isPowerOnReset = false

/-- Every lock bit set in `s` is set in `t` (42_driver_config.md R150). -/
structure LocksKept (s t : Sensor) : Prop where
  win : s.winLock = true → t.winLock = true
  crit : s.critLock = true → t.critLock = true

end Sys2Proof.Machine
end

