-- ==== Sys2Proof/WellFormed.lean ====
section
/-! DEFINITION. The commands the assembler writes: `sel` inside the command's legal set (30_encoding.md R85 b) and an
opcode with a mnemonic (R84, R91). The block itself accepts every 56-bit word; an ill-formed command ends there with
`InvalidConfiguration` or `InvalidCommand`. -/

namespace Sys2Proof

/-- One check per command with a restricted `sel`, and one per reserved opcode (30_encoding.md R84, R85 b). -/
def WellFormed : Instr → Bool
  | .dect _ => true
  | .enct _ => true
  | .packf _ _ _ _ => true
  | .self _ _ _ => true
  | .rdtemp => true
  | .setthr which _ => decide (which.toNat ≤ 2)
  | .setres code => decide (code.toNat ≤ 3)
  | .sethyst code => decide (code.toNat ≤ 3)
  | .setshdn flag => decide (flag.toNat ≤ 1)
  | .setclk flag => decide (flag.toNat ≤ 1)
  | .setwlk flag => decide (flag.toNat ≤ 1)
  | .setalrt _ _ _ _ => true
  | .getalrt => true
  | .clrint => true
  | .reservedE => false
  | .reservedF => false

end Sys2Proof
end

