-- ==== Sys2Proof/Certificates/Slice0/Obligations.lean ====
section
/-! DEFINITION. What is claimed of the block, rule by rule. The fields of `Finished` give every field of the next
state, so each statement with it is also the frame of its command. `NoResetThrough n` says that no reset of the block
cuts the command short. -/

open Sys2Proof Sys2Proof.Machine

/-! Encoding -/

/-- 30_encoding.md R81 to R83, R89, R91: no operand bit is lost between the encoder and the decoder, for every command
and every operand value. -/
def Obligations.DecodeOfEncodeIsTheCommand : Prop := ∀ i : Instr, decode (encode i) = i

/-- 30_encoding.md R82, R85 (a), R91: the decoder reads the listed fields of a word and no others, and encoding the
command it read gives the word with every ignored field zero. -/
def Obligations.DecoderReadsOnlyListedFields : Prop :=
  (∀ w : Command, encode (decode w) = w &&& readBits (w.extractLsb' 52 4)) ∧
  (∀ w w' : Command, w &&& readBits (w.extractLsb' 52 4) = w' &&& readBits (w.extractLsb' 52 4) →
    decode w = decode w')

/-- 30_encoding.md R83: the command a word selects is the one whose match value the word has under the mask. -/
def Obligations.OpcodeSelectsTheCommand : Prop :=
  ∀ w : Command, w &&& 0xF0000000000000 = (decode w).opcode.setWidth 56 <<< 52

/-- 95_test_vectors.md, 30_encoding.md R91: words written out from the encoding are the commands they stand for. -/
def Obligations.WrittenOutWordsDecode : Prop :=
  decode 0x0000000000A190 = .dect 0xA190 ∧
  decode 0x100000FFF6C000 = .enct 0xFFF6C000 ∧
  decode 0x240ABC0F0000FF = .packf 0x00FF 0x0F00 4 0x0ABC ∧
  decode 0x3D0000E000A190 = .self 0xA190 0xE000 13 ∧
  decode 0x40000000000000 = .rdtemp ∧
  decode 0x510000FFF6C000 = .setthr 1 0xFFF6C000 ∧
  decode 0x63000000000000 = .setres 3 ∧
  decode 0x71000000000000 = .sethyst 1 ∧
  decode 0x81000000000000 = .setshdn 1 ∧
  decode 0x91000000000000 = .setclk 1 ∧
  decode 0xA1000000000000 = .setwlk 1 ∧
  decode 0xB9000000000000 = .setalrt true false false true ∧
  decode 0xC0000000000000 = .getalrt ∧
  decode 0xD0000000000000 = .clrint ∧
  decode 0xE0000000000000 = .reservedE ∧
  decode 0xFFFFFFFFFFFFFF = .reservedF

/-- 30_encoding.md R84: a word with a reserved opcode ends with `InvalidCommand`, no transaction and no data; every
other word selects one of the 14 commands. A reset of the block in the check phase apart (R190). -/
def Obligations.ReservedOpcodesAnswerInvalidCommand : Prop :=
  (∀ s : State, s.NoResetThrough 0 → ∃ t, exec .reservedE s = .next t ∧ Answered s t (.error .invalidCommand)) ∧
  (∀ s : State, s.NoResetThrough 0 → ∃ t, exec .reservedF s = .next t ∧ Answered s t (.error .invalidCommand)) ∧
  (∀ w : Command, w.extractLsb' 52 4 = 0xE → decode w = .reservedE) ∧
  (∀ w : Command, w.extractLsb' 52 4 = 0xF → decode w = .reservedF) ∧
  (∀ w : Command, (w.extractLsb' 52 4).toNat ≤ 0xD → decode w ≠ .reservedE ∧ decode w ≠ .reservedF) ∧
  (CommandError.invalidCommand.status.code = 4 ∧ (Response.error .invalidCommand).data = none)

/-- 30_encoding.md R92 with 10_state.md R30, R31, R33: each of the fourteen function names expands to its own command,
with the codes of the tables, and to a command the assembler may write; a resolution or hysteresis outside the tables
has no expansion. The codes are the spec's general knowledge (log 13). -/
def Obligations.FunctionNamesExpandToLegalCommands : Prop :=
  (∀ f i, FunctionCall.expand f = some i → WellFormed i = true) ∧
  (∀ r, FunctionCall.expand (.decodeTemperature r) = some (.dect r)) ∧
  (∀ v, FunctionCall.expand (.encodeTemperature v) = some (.enct v)) ∧
  (∀ w m sh v, FunctionCall.expand (.packField w m sh v) = some (.packf w m sh v)) ∧
  (∀ w m sh, FunctionCall.expand (.selectField w m sh) = some (.self w m sh)) ∧
  FunctionCall.expand .readTemperature = some .rdtemp ∧
  (∀ v, FunctionCall.expand (.setThreshold .upper v) = some (.setthr 0 v) ∧
    FunctionCall.expand (.setThreshold .lower v) = some (.setthr 1 v) ∧
    FunctionCall.expand (.setThreshold .critical v) = some (.setthr 2 v)) ∧
  (∀ c i, FunctionCall.expand (.setResolution c) = some i ↔
    ∃ code : Sel, i = .setres code ∧ code.toNat ≤ 3 ∧ c.toNat * 2 ^ code.toNat = 0x8000) ∧
  (∀ c i, FunctionCall.expand (.setHysteresis c) = some i ↔
    (i = .sethyst 0 ∧ c.toNat = 0) ∨ (i = .sethyst 1 ∧ c.toNat = 0x18000) ∨ (i = .sethyst 2 ∧ c.toNat = 0x30000) ∨
      (i = .sethyst 3 ∧ c.toNat = 0x60000)) ∧
  (FunctionCall.expand (.setShutdown false) = some (.setshdn 0) ∧
    FunctionCall.expand (.setShutdown true) = some (.setshdn 1)) ∧
  (FunctionCall.expand (.setCriticalLock false) = some (.setclk 0) ∧
    FunctionCall.expand (.setCriticalLock true) = some (.setclk 1)) ∧
  (FunctionCall.expand (.setWindowLock false) = some (.setwlk 0) ∧
    FunctionCall.expand (.setWindowLock true) = some (.setwlk 1)) ∧
  (∀ enabled select polarity mode, FunctionCall.expand (.setAlerts enabled select polarity mode) =
    some (.setalrt enabled (select == .selectCritical) (polarity == .high) (mode == .interrupt))) ∧
  FunctionCall.expand .getAlertStatus = some .getalrt ∧
  FunctionCall.expand .clearInterrupt = some .clrint

/-! Codec commands -/

/-- 40_codec.md R102 (which the spec derives from R101): for every 16-bit operand the count of DECT is the 13-bit two's
complement of its low bits, and the response data is seven copies of the sign bit, the 13 bits and twelve zeros. -/
def Obligations.DectIsSignExtension : Prop :=
  ∀ (a : Word),
    dectCount a = (a.extractLsb' 0 13).toInt ∧
    BitVec.fill 7 (a.getLsbD 12) ++ a.extractLsb' 0 13 ++ (0 : BitVec 12) =
      BitVec.ofInt 32 ((a.extractLsb' 0 13).toInt * 4096) ∧
    ∀ s : State, s.NoResetThrough 0 → ∃ t, exec (.dect a) s = .next t ∧
      Answered s t (.ok (BitVec.fill 7 (a.getLsbD 12) ++ a.extractLsb' 0 13 ++ (0 : BitVec 12)))

/-- 40_codec.md R103: for a TVAL in range ENCT answers the 13-bit two's complement of the value in sixteenths of a
degree, truncated toward zero, with bits 15:13 zero. -/
def Obligations.EnctTruncatesTowardZero : Prop :=
  ∀ (t : Tval) (s : State), -16777216 ≤ t.toInt → t.toInt ≤ 16773120 → s.NoResetThrough 0 →
    ∃ u, exec (.enct t) s = .next u ∧
      Answered s u (.ok (BitVec.setWidth 32 (BitVec.ofInt 13 (t.toInt.tdiv 4096))))

/-- 40_codec.md R104: ENCT and SETTHR end with `RangeError`, no data and no transaction, exactly when the exact value
is below −256.0 or above +255.9375. -/
def Obligations.RangeErrorExactlyOutsideTheBounds : Prop :=
  ∀ (t : Tval) (which : Sel) (s : State), which.toNat ≤ 2 → s.NoResetThrough 0 →
    ((t.toInt < -16777216 ∨ 16773120 < t.toInt) →
      (∃ u, exec (.enct t) s = .next u ∧ Answered s u (.error (.rangeError t))) ∧
      (∃ u, exec (.setthr which t) s = .next u ∧ Answered s u (.error (.rangeError t)))) ∧
    (¬(t.toInt < -16777216 ∨ 16773120 < t.toInt) →
      (∃ d u, exec (.enct t) s = .next u ∧ Answered s u (.ok d)) ∧
      (∃ u, exec (.setthr which t) s = .next u ∧ u.responses ≠ .error (.rangeError t) :: s.responses))

/-- 40_codec.md R105: every multiple of 1/16 °C in range survives encoding and decoding, every 13-bit pattern survives
decoding and encoding, and a value in between comes back truncated toward zero. -/
def Obligations.TemperatureRoundTrips : Prop :=
  (∀ k : Int, -4096 ≤ k → k ≤ 4095 →
    (enctWord (BitVec.ofInt 32 (k * 4096))).toNat = (k % 8192).toNat ∧
    dectData (enctWord (BitVec.ofInt 32 (k * 4096))) = BitVec.ofInt 32 (k * 4096)) ∧
  (∀ p : Word, p.toNat < 8192 → enctWord (dectData p) = p) ∧
  (∀ t : Tval, outOfRange t = false → (dectData (enctWord t)).toInt = t.toInt.tdiv 4096 * 4096)

/-- 40_codec.md R106: PACKF replaces the bits under the mask by those of the shifted value and keeps the others; bits
shifted past bit 15 are lost. -/
def Obligations.PackfReplacesTheMaskedBits : Prop :=
  ∀ (current mask value : Word) (shift : Sel) (s : State), s.NoResetThrough 0 →
    ∃ t r, exec (.packf current mask shift value) s = .next t ∧ Answered s t (.ok (BitVec.setWidth 32 r)) ∧
      r = packField current mask shift value ∧
      ∀ i < 16, r.getLsbD i =
        if mask.getLsbD i then (decide (shift.toNat ≤ i) && value.getLsbD (i - shift.toNat))
        else current.getLsbD i

/-- 40_codec.md R107 (which the spec derives from R106): isolation, field content, idempotence, last write wins,
disjoint fields commute. -/
def Obligations.PackFieldLaws : Prop :=
  ∀ (w m m' v v' : Word) (s s' : Sel),
    packField w m s v &&& ~~~m = w &&& ~~~m ∧
    packField w m s v &&& m = (v <<< s.toNat) &&& m ∧
    packField (packField w m s v) m s v = packField w m s v ∧
    packField (packField w m s v) m s' v' = packField w m s' v' ∧
    (m &&& m' = 0 →
      packField (packField w m s v) m' s' v' = packField (packField w m' s' v') m s v)

/-- 40_codec.md R108: SELF masks first, then shifts right with zeros entering at bit 15. -/
def Obligations.SelfSelectsAndShifts : Prop :=
  ∀ (word mask : Word) (shift : Sel) (s : State), s.NoResetThrough 0 →
    ∃ t r, exec (.self word mask shift) s = .next t ∧ Answered s t (.ok (BitVec.setWidth 32 r)) ∧
      r = selectField word mask shift ∧
      ∀ i, r.getLsbD i = (word.getLsbD (i + shift.toNat) && mask.getLsbD (i + shift.toNat))

/-- 40_codec.md R109 (which the spec derives from R106 and R108): on a run of ones whose lowest bit is the shift,
selecting undoes packing and packing undoes selecting; every field of CONFIG and TAMBIENT is such a run. -/
def Obligations.PackAndSelectAreInverse : Prop :=
  (∀ (n : Nat) (s : Sel) (m w v : Word), 1 ≤ n → s.toNat + n ≤ 16 → m.toNat = (2 ^ n - 1) * 2 ^ s.toNat →
    (v.toNat < 2 ^ n → selectField (packField w m s v) m s = v) ∧
    packField w m s (selectField w m s) = w) ∧
  (∀ f ∈ configFields ++ tambientFields, ∃ n, 1 ≤ n ∧ f.shift.toNat + n ≤ 16 ∧
    f.mask.toNat = (2 ^ n - 1) * 2 ^ f.shift.toNat)

/-- 40_codec.md R100: the response of a codec command depends on the command alone, and nothing outside the response
changes. A reset of the block in the check phase apart (R190). -/
def Obligations.CodecCommandsDependOnTheWordAlone : Prop :=
  ∀ i : Instr, i.opcode.toNat ≤ 3 → ∃ r, ∀ s : State, s.NoResetThrough 0 →
    ∃ t, exec i s = .next t ∧ Answered s t r

/-! The sensor and the bus -/

/-- What a write does to each bit of each register, RESOLUTION among them. The default `SENSOR_WRITE` of 10_state.md R38
is the spec's own choice; a stricter one keeps the bits it names, always or while a lock bit is set, and stores every
other bit as the default does (70_reset_and_hazards.md R208; the form of the parameter is the model's, log 5). Under
every one a write never clears a lock bit, as R38 requires. -/
def Obligations.SensorWriteBits : Prop :=
  (∀ (x : Sensor) (how : SensorWrite) (v : Word) (i : Nat), i < 16 → x.TakesWrites how →
    (sensorWrite how x .config v).getLsbD i =
      if i = 4 then x.config.getLsbD 4 else if i = 6 ∨ i = 7 then (x.config.getLsbD i || v.getLsbD i)
      else v.getLsbD i) ∧
  (∀ (x : Sensor) (how : SensorWrite) (v : Word), x.TakesWrites how →
    sensorWrite how x .tupper v = v ∧ sensorWrite how x .tlower v = v ∧ sensorWrite how x .tcrit v = v) ∧
  (∀ (x : Sensor) (how : SensorWrite) (v : Word), sensorWrite how x .tambient v = x.tambient) ∧
  (∀ (x : Sensor) (how : SensorWrite) (v : Byte), x.TakesWrites how → sensorWriteByte how x v = v) ∧
  (∀ (x : Sensor) (how : SensorWrite) (r : WordReg) (v : Word) (i : Nat),
    how.Keeps x (fun kept => (kept.word r).getLsbD i) →
    (sensorWrite how x r v).getLsbD i = (x.word r).getLsbD i) ∧
  (∀ (x : Sensor) (how : SensorWrite) (v : Byte) (i : Nat),
    how.Keeps x (fun kept => kept.resolution.getLsbD i) →
    (sensorWriteByte how x v).getLsbD i = x.resolution.getLsbD i) ∧
  (∀ (x : Sensor) (how : SensorWrite) (v : Word) (i : Nat), i < 16 →
    ¬ how.Keeps x (fun kept => kept.config.getLsbD i) →
    (sensorWrite how x .config v).getLsbD i =
      if i = 4 then x.config.getLsbD 4 else if i = 6 ∨ i = 7 then (x.config.getLsbD i || v.getLsbD i)
      else v.getLsbD i) ∧
  (∀ (x : Sensor) (how : SensorWrite) (r : WordReg) (v : Word) (i : Nat), r = .tupper ∨ r = .tlower ∨ r = .tcrit →
    ¬ how.Keeps x (fun kept => (kept.word r).getLsbD i) →
    (sensorWrite how x r v).getLsbD i = v.getLsbD i) ∧
  (∀ (x : Sensor) (how : SensorWrite) (v : Byte) (i : Nat),
    ¬ how.Keeps x (fun kept => kept.resolution.getLsbD i) →
    (sensorWriteByte how x v).getLsbD i = v.getLsbD i) ∧
  (∀ (x : Sensor) (how : SensorWrite) (v : Word), LocksKept x (x.storeWord how .config v)) ∧
  (∀ (x : Sensor) (how : SensorWrite) (v : Byte), (x.storeByte how v).resolution = sensorWriteByte how x v ∧
    ∀ r, (x.storeByte how v).word r = x.word r) ∧
  (∀ (x : Sensor) (how : SensorWrite) (r : WordReg) (v : Word),
    (x.storeWord how r v).word r = sensorWrite how x r v ∧ (x.storeWord how r v).resolution = x.resolution ∧
    ∀ q, q ≠ r → (x.storeWord how r v).word q = x.word q)

/-- 10_state.md R39: a successful read returns the register as the sensor holds it at that moment, and no read of the
block or of another master changes sensor state. -/
def Obligations.ReadsReturnAndChangeNothing : Prop :=
  (∀ (r : WordReg) (s : State), s.Succeeds 0 →
    (rawReadWord r s).1 = .value (swap16 ((s.moved 0 s.sensor).word r)) ∧
    (rawReadWord r s).2.sensor = s.moved 0 s.sensor) ∧
  (∀ s : State, s.Succeeds 0 →
    (rawReadByte s).1 = .value (s.moved 0 s.sensor).resolution ∧ (rawReadByte s).2.sensor = s.moved 0 s.sensor) ∧
  (∀ (r : WordReg) (how : SensorWrite) (x : Sensor),
    masterTxn how (.readWord r) x = x ∧ masterTxn how .readByte x = x)

/-- 10_state.md R40: each step of the sensor changes what the table says and nothing else. 20_memory.md R61;
70_reset_and_hazards.md R196: the same steps, whatever `EXCLUSIVE`, and another master's transactions, when it is false
(log 14), are what happens between two transactions of the block, one after the other in the order listed (log 22). -/
def Obligations.SensorStepsChangeOnlyTheirOwnBits : Prop :=
  ∀ x : Sensor,
    (∀ v, sensorStep (.measure v) x = { x with tambient := v }) ∧
    (∀ b, ∃ c : Word, sensorStep (.alert b) x = { x with config := c } ∧
      ∀ i, c.getLsbD i = if i = 4 then b else x.config.getLsbD i) ∧
    (∃ c : Word, sensorStep .intClrDone x = { x with config := c } ∧
      ∀ i, c.getLsbD i = if i = 5 then false else x.config.getLsbD i) ∧
    (∀ p a, agentStep p x (.sensor a) = sensorStep a x) ∧
    (∀ p txn, agentStep p x (.master txn) = if p.exclusive then x else masterTxn p.sensorWrite txn x) ∧
    (∀ how r v, masterTxn how (.writeWord r v) x = x.storeWord how r v) ∧
    (∀ how v, masterTxn how (.writeByte v) x = x.storeByte how v) ∧
    (∀ p, agentSteps p [] x = x) ∧
    (∀ p a rest, agentSteps p (a :: rest) x = agentSteps p rest (agentStep p x a))

/-- 20_memory.md R52: the raw word of a successful read is the byte swap of the register value, a successful raw write
stores the byte swap of the raw word, and a byte is not swapped. -/
def Obligations.RawWordsAreByteSwapped : Prop :=
  ∀ (r : WordReg) (s : State), s.Succeeds 0 →
    (∀ i < 8, ∀ raw, (rawReadWord r s).1 = .value raw →
      raw.getLsbD (i + 8) = ((s.moved 0 s.sensor).word r).getLsbD i ∧
      raw.getLsbD i = ((s.moved 0 s.sensor).word r).getLsbD (i + 8)) ∧
    (∃ raw, (rawReadWord r s).1 = .value raw) ∧
    (∀ raw : Word, (rawWriteWord r raw s).1 = .value () ∧
      (rawWriteWord r raw s).2.sensor =
        (s.moved 0 s.sensor).setWord r
          (sensorWrite s.platform.sensorWrite (s.moved 0 s.sensor) r (swap16 raw))) ∧
    (∀ v : Byte, (rawWriteByte v s).1 = .value () ∧
      (rawWriteByte v s).2.sensor = { s.moved 0 s.sensor with
        resolution := sensorWriteByte s.platform.sensorWrite (s.moved 0 s.sensor) v })

/-- 20_memory.md R57 (which the spec derives from R52 to R54): on success the normalized read hands on `S[r]` and the
normalized write performs `S[r] <- SensorWrite(r, S[r], v)`; the two swaps cancel. The command goes on unless a reset
of the block comes at the end of the phase (R190). -/
def Obligations.NormalizedAccessesActOnTheRegister : Prop :=
  (∀ w : Word, swap16 (swap16 w) = w) ∧
  (∀ (r : WordReg) (k : Word → State → State) (s : State), s.Succeeds 0 →
    s.resetAfter ≠ some (s.block.phase + 1) →
    ∃ s1 : State, memReadWord r k s = k ((s.moved 0 s.sensor).word r) s1 ∧ s1.sensor = s.moved 0 s.sensor ∧
      s1.platform = s.platform ∧ s1.turns = s.turns ∧ s1.responses = s.responses) ∧
  (∀ (r : WordReg) (v : Word) (k : State → State) (s : State), s.Succeeds 0 →
    s.resetAfter ≠ some (s.block.phase + 1) →
    ∃ s1 : State, memWriteWord r v k s = k s1 ∧
      s1.sensor.word r = sensorWrite s.platform.sensorWrite (s.moved 0 s.sensor) r v ∧
      (∀ q, q ≠ r → s1.sensor.word q = (s.moved 0 s.sensor).word q) ∧
      s1.sensor.resolution = (s.moved 0 s.sensor).resolution ∧
      s1.platform = s.platform ∧ s1.turns = s.turns ∧ s1.responses = s.responses)

/-- 20_memory.md R64 (the two outcomes of a failed write are the spec's own reading; log 6): a failed read returns
nothing and changes nothing; after a failed write the register is old or new, each of the two under its own answer of
the transport, and nothing else has changed. -/
def Obligations.FailedTransactionsLeaveOldOrNew : Prop :=
  ∀ (s : State) (stored : Bool), s.Fails 0 stored →
    (∀ r, (rawReadWord r s).1 = .failed ∧ (rawReadWord r s).2.sensor = s.moved 0 s.sensor) ∧
    ((rawReadByte s).1 = .failed ∧ (rawReadByte s).2.sensor = s.moved 0 s.sensor) ∧
    (∀ r raw, (rawWriteWord r raw s).1 = .failed ∧ (rawWriteWord r raw s).2.sensor =
      if stored then (s.moved 0 s.sensor).storeWord s.platform.sensorWrite r (swap16 raw) else s.moved 0 s.sensor) ∧
    (∀ v, (rawWriteByte v s).1 = .failed ∧ (rawWriteByte v s).2.sensor =
      if stored then (s.moved 0 s.sensor).storeByte s.platform.sensorWrite v else s.moved 0 s.sensor)

/-! Driver commands -/

/-- 41_driver_temperature.md R121: RDTEMP reads word 0x05 and answers the decoded low 13 bits; when the read fails it
answers `TransportError` and no data. -/
def Obligations.RdtempAnswersTheTemperature : Prop :=
  ∀ s : State, s.NoResetThrough 1 →
    (s.Succeeds 0 → ∃ t, exec .rdtemp s = .next t ∧
      Finished s t 1 [s.seen 1 (.rd16 0x05 (some (swap16 (s.moved 0 s.sensor).tambient)))] (s.moved 0 s.sensor)
        (.ok (BitVec.ofInt 32 (((s.moved 0 s.sensor).tambient.extractLsb' 0 13).toInt * 4096)))) ∧
    (∀ stored, s.Fails 0 stored → ∃ t, exec .rdtemp s = .next t ∧
      Finished s t 1 [s.seen 1 (.rd16 0x05 none)] (s.moved 0 s.sensor) (.error (.transportError 0x05)))

/-- 41_driver_temperature.md R122: for a legal `which` and a TVAL in range SETTHR writes the encoded word, bits 15:13
zero, to pointer 0x02 + which, without a read, and answers OK whatever the sensor makes of the write. That the register
then holds the word is claimed only where the default `SENSOR_WRITE` holds or no lock bit is set and nothing is always
kept (70_reset_and_hazards.md R208; the default is the spec's own choice and the form of a stricter one the model's,
log 5). -/
def Obligations.SetthrWritesTheThreshold : Prop :=
  ∀ (which : Sel) (v : Tval) (s : State), which.toNat ≤ 2 → -16777216 ≤ v.toInt → v.toInt ≤ 16773120 →
    s.NoResetThrough 1 → s.Succeeds 0 →
    ∃ t r enc, exec (.setthr which v) s = .next t ∧
      r.pointer = 0x02 + BitVec.setWidth 8 which ∧
      enc = BitVec.setWidth 16 (BitVec.ofInt 13 (v.toInt.tdiv 4096)) ∧
      Finished s t 1 [s.seen 1 (.wr16 (0x02 + BitVec.setWidth 8 which) (swap16 enc) true)]
        ((s.moved 0 s.sensor).storeWord s.platform.sensorWrite r enc) (.ok 0) ∧
      ((s.moved 0 s.sensor).TakesWrites s.platform.sensorWrite → t.sensor.word r = enc)

/-- 41_driver_temperature.md R123: the errors of SETTHR in the order they are tested. -/
def Obligations.SetthrErrorsInOrder : Prop :=
  ∀ (which : Sel) (v : Tval) (s : State),
    (3 ≤ which.toNat → s.NoResetThrough 0 → ∃ t, exec (.setthr which v) s = .next t ∧
      Answered s t (.error (.invalidConfiguration which))) ∧
    (which.toNat ≤ 2 → (v.toInt < -16777216 ∨ 16773120 < v.toInt) → s.NoResetThrough 0 →
      ∃ t, exec (.setthr which v) s = .next t ∧ Answered s t (.error (.rangeError v))) ∧
    (which.toNat ≤ 2 → -16777216 ≤ v.toInt → v.toInt ≤ 16773120 → s.NoResetThrough 1 → ∀ stored, s.Fails 0 stored →
      ∃ t r enc, exec (.setthr which v) s = .next t ∧
        r.pointer = 0x02 + BitVec.setWidth 8 which ∧
        enc = BitVec.setWidth 16 (BitVec.ofInt 13 (v.toInt.tdiv 4096)) ∧
        Finished s t 1 [s.seen 1 (.wr16 (0x02 + BitVec.setWidth 8 which) (swap16 enc) false)]
          (if stored then (s.moved 0 s.sensor).storeWord s.platform.sensorWrite r enc else s.moved 0 s.sensor)
          (.error (.transportError (0x02 + BitVec.setWidth 8 which))))

/-- 41_driver_temperature.md R124: SETRES writes its code to RESOLUTION as a whole byte, bits 7:2 zero, without a read;
a code above 3 is refused without a transaction; a failed write answers `TransportError`. That RESOLUTION then holds
the code is claimed only where the default `SENSOR_WRITE` holds or no lock bit is set and nothing is always kept
(70_reset_and_hazards.md R208; the default is the spec's own choice and the form of a stricter one the model's,
log 5). -/
def Obligations.SetresWritesTheWholeByte : Prop :=
  ∀ (code : Sel) (s : State),
    (code.toNat ≤ 3 → s.NoResetThrough 1 → s.Succeeds 0 → ∃ t, exec (.setres code) s = .next t ∧
      Finished s t 1 [s.seen 1 (.wr8 0x08 (BitVec.setWidth 8 code) true)]
        ((s.moved 0 s.sensor).storeByte s.platform.sensorWrite (BitVec.setWidth 8 code)) (.ok 0) ∧
      ((s.moved 0 s.sensor).TakesWrites s.platform.sensorWrite →
        t.sensor.resolution = BitVec.setWidth 8 code)) ∧
    (3 < code.toNat → s.NoResetThrough 0 → ∃ t, exec (.setres code) s = .next t ∧
      Answered s t (.error (.invalidConfiguration code))) ∧
    (code.toNat ≤ 3 → s.NoResetThrough 1 → ∀ stored, s.Fails 0 stored → ∃ t, exec (.setres code) s = .next t ∧
      Finished s t 1 [s.seen 1 (.wr8 0x08 (BitVec.setWidth 8 code) false)]
        (if stored then (s.moved 0 s.sensor).storeByte s.platform.sensorWrite (BitVec.setWidth 8 code)
          else s.moved 0 s.sensor)
        (.error (.transportError 0x08)))

/-- 42_driver_config.md R141: SETHYST replaces CONFIG[10:9] by its code. -/
def Obligations.SethystReplacesTheHysteresis : Prop :=
  ∀ code : Sel,
    (code.toNat ≤ 3 → RunsReadModifyWrite (.sethyst code)
      (fun cfg => (cfg &&& 0xF9FF) ||| (BitVec.setWidth 16 code <<< 9))) ∧
    (3 < code.toNat → ∀ s : State, s.NoResetThrough 0 → ∃ t, exec (.sethyst code) s = .next t ∧
      Answered s t (.error (.invalidConfiguration code)))

/-- 42_driver_config.md R142: SETSHDN replaces CONFIG[8] by its flag. -/
def Obligations.SetshdnReplacesTheShutdownBit : Prop :=
  ∀ flag : Sel,
    (flag.toNat ≤ 1 → RunsReadModifyWrite (.setshdn flag)
      (fun cfg => (cfg &&& 0xFEFF) ||| (BitVec.setWidth 16 flag <<< 8))) ∧
    (1 < flag.toNat → ∀ s : State, s.NoResetThrough 0 → ∃ t, exec (.setshdn flag) s = .next t ∧
      Answered s t (.error (.invalidConfiguration flag)))

/-- 42_driver_config.md R143: SETCLK sets CONFIG[7] for flag 1 and writes back what it read for flag 0. -/
def Obligations.SetclkOnlySetsTheCriticalLock : Prop :=
  ∀ flag : Sel,
    (flag.toNat ≤ 1 → RunsReadModifyWrite (.setclk flag) (fun cfg => cfg ||| (BitVec.setWidth 16 flag <<< 7))) ∧
    (1 < flag.toNat → ∀ s : State, s.NoResetThrough 0 → ∃ t, exec (.setclk flag) s = .next t ∧
      Answered s t (.error (.invalidConfiguration flag)))

/-- 42_driver_config.md R144: SETWLK sets CONFIG[6] for flag 1 and writes back what it read for flag 0. -/
def Obligations.SetwlkOnlySetsTheWindowLock : Prop :=
  ∀ flag : Sel,
    (flag.toNat ≤ 1 → RunsReadModifyWrite (.setwlk flag) (fun cfg => cfg ||| (BitVec.setWidth 16 flag <<< 6))) ∧
    (1 < flag.toNat → ∀ s : State, s.NoResetThrough 0 → ∃ t, exec (.setwlk flag) s = .next t ∧
      Answered s t (.error (.invalidConfiguration flag)))

/-- 42_driver_config.md R146: SETALRT replaces CONFIG[3:0] by enabled, select, polarity and mode in one
read-modify-write. -/
def Obligations.SetalrtReplacesTheFourAlertBits : Prop :=
  ∀ enabled select polarity mode : Bool,
    RunsReadModifyWrite (.setalrt enabled select polarity mode) (fun cfg =>
      (cfg &&& 0xFFF0) ||| (if enabled then 8 else 0) ||| (if select then 4 else 0) ||| (if polarity then 2 else 0) |||
        (if mode then 1 else 0))

/-- 42_driver_config.md R147: GETALRT reads word 0x05 and then word 0x01, each at its own moment, answers
TAMBIENT[15:13] in bits 3:1 and CONFIG[4] in bit 0, and writes nothing; a failure of either read answers
`TransportError` and no flags. -/
def Obligations.GetalrtAnswersFlagsAndActive : Prop :=
  ∀ s : State,
    (s.NoResetThrough 2 → s.Succeeds 0 → s.Succeeds 1 → ∃ t d, exec .getalrt s = .next t ∧
      Finished s t 2
        [s.seen 2 (.rd16 0x01 (some (swap16 (s.moved 1 (s.moved 0 s.sensor)).config))),
          s.seen 1 (.rd16 0x05 (some (swap16 (s.moved 0 s.sensor).tambient)))]
        (s.moved 1 (s.moved 0 s.sensor)) (.ok d) ∧
      d.toNat = 2 * ((s.moved 0 s.sensor).tambient.toNat / 2 ^ 13) +
        (if (s.moved 1 (s.moved 0 s.sensor)).config.getLsbD 4 then 1 else 0)) ∧
    (∀ stored, s.NoResetThrough 1 → s.Fails 0 stored → ∃ t, exec .getalrt s = .next t ∧
      Finished s t 1 [s.seen 1 (.rd16 0x05 none)] (s.moved 0 s.sensor) (.error (.transportError 0x05))) ∧
    (∀ stored, s.NoResetThrough 2 → s.Succeeds 0 → s.Fails 1 stored → ∃ t, exec .getalrt s = .next t ∧
      Finished s t 2
        [s.seen 2 (.rd16 0x01 none), s.seen 1 (.rd16 0x05 (some (swap16 (s.moved 0 s.sensor).tambient)))]
        (s.moved 1 (s.moved 0 s.sensor)) (.error (.transportError 0x01)))

/-- 42_driver_config.md R148: CLRINT writes back CONFIG with bit 5 set, in exactly a read and a write. -/
def Obligations.ClrintSetsTheInterruptClearBit : Prop :=
  RunsReadModifyWrite .clrint (fun cfg => cfg ||| 0x0020)

/-- 42_driver_config.md R140: every read-modify-write command keeps every bit outside its field as it read it, writes
even when nothing changes, and attempts no write after a failed read. -/
def Obligations.ReadModifyWritePreservesOtherBits : Prop :=
  ∀ i : Instr, IsReadModifyWrite i = true → ∃ modify : Word → Word,
    (∀ cfg, modify cfg &&& ~~~rmwMask i = cfg &&& ~~~rmwMask i) ∧ RunsReadModifyWrite i modify

/-- 42_driver_config.md R149 (which the spec derives from R140, R107 and R38): with no other agent's step and both
transactions successful, (a) the word written keeps every bit outside the mask; and where the default `SENSOR_WRITE`
holds, or no lock bit is set and nothing is always kept (log 5), (b) CONFIG afterwards is the word written, (c) the
same command again writes the same word and leaves the same CONFIG. -/
def Obligations.ReadModifyWriteIsIdempotent : Prop :=
  ∀ (i : Instr) (s t : State), IsReadModifyWrite i = true → s.NoResetThrough 2 →
    s.Quiet 0 → s.Quiet 1 → s.Succeeds 0 → s.Succeeds 1 → exec i s = .next t →
    ∃ new : Word,
      t.bus.trace.head? = some (s.seen 2 (.wr16 0x01 (swap16 new) true)) ∧
      new &&& ~~~rmwMask i = s.sensor.config &&& ~~~rmwMask i ∧
      (s.sensor.TakesWrites s.platform.sensorWrite →
        t.sensor.config = new ∧
        (t.Quiet 0 → t.Quiet 1 → t.Succeeds 0 → t.Succeeds 1 → ∃ u, exec i t = .next u ∧
          u.bus.trace.head? = some (s.seen 2 (.wr16 0x01 (swap16 new) true)) ∧ u.sensor.config = new))

/-- 42_driver_config.md R145 (which the spec derives from R140 to R148): no command writes a 0 into CONFIG bit 6 or 7
where the word it read in the same command has a 1; every write of CONFIG follows a read of it. Records are newest
first. -/
def Obligations.NoCommandClearsALockItRead : Prop :=
  ∀ (i : Instr) (s t : State), exec i s = .next t → ∃ records, t.bus.trace = records ++ s.bus.trace ∧
    records.length ≤ 2 ∧
    ∀ newer r older, records = newer ++ r :: older → ∀ raw ok, r.op = .wr16 0x01 raw ok →
      r.phase = 2 ∧ ∃ q ∈ older, ∃ rawRead, q.op = .rd16 0x01 (some rawRead) ∧ q.phase = 1 ∧
        (∀ k, k = 6 ∨ k = 7 → (swap16 rawRead).getLsbD k = true → (swap16 raw).getLsbD k = true)

/-- 42_driver_config.md R150 (which the spec derives from R145, R38 and R40): in every run without a power-on reset of
the sensor, from every state, a lock bit that is set stays set, whatever commands follow, whatever other masters and
the transport do, whenever the block is reset, and under every `SENSOR_WRITE` of the model (log 5). -/
def Obligations.LocksStaySetWithoutPowerOnReset : Prop :=
  ∀ (n : Nat) (s t : State), s.NoPowerOnReset n → core.run n s = .next t → LocksKept s.sensor t.sensor

/-! Errors -/

/-- 60_exceptions.md R173, R174 with 30_encoding.md R84, R85 (b): a command the assembler would not write ends in the
check phase with `InvalidConfiguration` or `InvalidCommand`, having touched nothing; a command it would write answers
neither. -/
def Obligations.IllFormedCommandsAreRefusedUntouched : Prop :=
  ∀ (i : Instr) (s : State),
    (WellFormed i = false → s.NoResetThrough 0 → ∃ t kind, exec i s = .next t ∧ Answered s t (.error kind) ∧
      (kind = .invalidCommand ∨ ∃ sel, kind = .invalidConfiguration sel)) ∧
    (WellFormed i = true → ∃ t, exec i s = .next t ∧ t.responses ≠ .error .invalidCommand :: s.responses ∧
      ∀ sel, t.responses ≠ .error (.invalidConfiguration sel) :: s.responses)

/-- 60_exceptions.md R170, R175: which error a command reports. `InvalidCommand` only for a reserved opcode,
`InvalidConfiguration` only for an illegal `sel`, `RangeError` only for a well-formed command with its TVAL out of
range, and `TransportError` only when the check phase passed, for the first transaction that failed. -/
def Obligations.TheFirstErrorInOrderIsReported : Prop :=
  ∀ (i : Instr) (s t : State) (kind : CommandError), exec i s = .next t →
    t.responses = .error kind :: s.responses →
    (kind = .invalidCommand ↔ i = .reservedE ∨ i = .reservedF) ∧
    ((∃ sel, kind = .invalidConfiguration sel) ↔ WellFormed i = false ∧ i ≠ .reservedE ∧ i ≠ .reservedF) ∧
    (∀ v, kind = .rangeError v ↔ WellFormed i = true ∧ tvalOperand i = some v ∧
      (v.toInt < -16777216 ∨ 16773120 < v.toInt)) ∧
    (∀ p, kind = .transportError p → PassesChecks i ∧ ∃ r, t.bus.trace.head? = some r ∧ r.op.succeeded = false ∧
      r.op.pointer = p ∧ (r.phase = 1 ↔ ¬ s.Succeeds 0) ∧ (r.phase = 2 ↔ s.Succeeds 0))

/-- 60_exceptions.md R176, R177: an error ends the command with the block idle and nothing saved, and an error of the
check phase leaves the sensor and the bus exactly as they were. -/
def Obligations.ErrorsLeaveNothingBehind : Prop :=
  ∀ (i : Instr) (s t : State) (kind : CommandError), exec i s = .next t →
    t.responses = .error kind :: s.responses →
    t.block = Block.idle ∧ t.platform = s.platform ∧ t.turns = s.turns ∧ (Response.error kind).data = none ∧
    ((∀ p, kind ≠ .transportError p) → t.sensor = s.sensor ∧ t.bus = s.bus)

/-- 60_exceptions.md R186 (which the spec derives from R60 and R171; a power loss in mid-command apart, log 7): (a) no
write after a failed transaction of the same command, (b) at most one write, (c) a command that ends in an error leaves
the sensor as the other agents made it, or its one write failed and the sensor took that write's data. -/
def Obligations.NoCommandIsPartlyApplied : Prop :=
  ∀ (i : Instr) (s t : State), exec i s = .next t → ∃ records, t.bus.trace = records ++ s.bus.trace ∧
    (∀ newer older, records = newer ++ older → (∃ r ∈ older, r.op.succeeded = false) →
      ∀ r ∈ newer, r.op.isWrite = false) ∧
    (records.filter (fun r => r.op.isWrite)).length ≤ 1 ∧
    (∀ kind, t.responses = .error kind :: s.responses → (s.inputAt 0).fate.isPowerOnReset = false →
      (s.Succeeds 0 → (s.inputAt 1).fate.isPowerOnReset = false) →
      (records = [] ∧ t.sensor = s.sensor) ∨
      (records.length = 1 ∧ t.sensor = s.moved 0 s.sensor) ∨
      (records.length = 2 ∧ t.sensor = s.moved 1 (s.moved 0 s.sensor)) ∨
      (s.Fails 0 true ∧ ∃ which v r, i = .setthr which v ∧ r.pointer = 0x02 + BitVec.setWidth 8 which ∧
        ∃ raw, records = [s.seen 1 (.wr16 r.pointer raw false)] ∧
          t.sensor = (s.moved 0 s.sensor).storeWord s.platform.sensorWrite r (swap16 raw)) ∨
      (s.Fails 0 true ∧ ∃ code, i = .setres code ∧ ∃ v, records = [s.seen 1 (.wr8 0x08 v false)] ∧
        t.sensor = (s.moved 0 s.sensor).storeByte s.platform.sensorWrite v) ∨
      (s.Succeeds 0 ∧ s.Fails 1 true ∧ IsReadModifyWrite i = true ∧
        ∃ raw first, records = [s.seen 2 (.wr16 0x01 raw false), first] ∧
          t.sensor = (s.moved 1 (s.moved 0 s.sensor)).storeWord s.platform.sensorWrite .config (swap16 raw)))

/-- 30_encoding.md R86, R87: a response carries data exactly when its status is OK, and the status codes are those of
the table. -/
def Obligations.ResponseDataOnlyWhenOk : Prop :=
  (∀ r : Response, r.data.isSome = true ↔ r.status.code = 0) ∧
  (∀ d, (Response.ok d).data = some d) ∧
  (∀ p, (Response.error (.transportError p)).status.code = 1) ∧
  (∀ t, (Response.error (.rangeError t)).status.code = 2) ∧
  (∀ sel, (Response.error (.invalidConfiguration sel)).status.code = 3) ∧
  (Response.error .invalidCommand).status.code = 4

/-- 30_encoding.md R86; 70_reset_and_hazards.md R190, R194: a command ends with exactly one response, whatever the
transport answers, unless a reset of the block meets it while it is in flight; then it ends with none. Either way the
block is idle. Where a reset can meet a command is the model's reading (log 8). -/
def Obligations.EveryCommandEndsWithOneResponse : Prop :=
  ∀ (i : Instr) (s : State), ∃ t, exec i s = .next t ∧ t.block = Block.idle ∧
    (¬ MeetsReset i s → ∃ r, t.responses = r :: s.responses) ∧
    (MeetsReset i s → t.responses = s.responses)

/-! Other agents, resets and the step -/

/-- 20_memory.md R60 with 10_state.md R24: with no step of another agent and no power-on reset a command changes no
register but the one it writes. -/
def Obligations.CommandsWriteOnlyTheirRegister : Prop :=
  ∀ (i : Instr) (s t : State), s.Quiet 0 → s.Quiet 1 → (s.inputAt 0).fate.isPowerOnReset = false →
    (s.inputAt 1).fate.isPowerOnReset = false → exec i s = .next t →
    (∀ r, mayWriteWord i r = false → t.sensor.word r = s.sensor.word r) ∧
    (mayWriteResolution i = false → t.sensor.resolution = s.sensor.resolution)

/-- 70_reset_and_hazards.md R196: when another master writes CONFIG between the read and the write of SETHYST, SETHYST
writes the stale word with its own field over it; under the default `SENSOR_WRITE` (log 5) the final CONFIG has
SETHYST's field and, but for the status and lock bits, the stale value of every other bit. With `EXCLUSIVE` true the
other master's write does not occur (log 14). -/
def Obligations.LostUpdateBetweenMasters : Prop :=
  ∀ (s : State) (code : Sel) (v : Word) (rest : List TxnInput), code.toNat ≤ 3 → s.NoResetThrough 2 →
    s.bus.script = { before := [], fate := .succeeds } ::
      { before := [.master (.writeWord .config v)], fate := .succeeds } :: rest →
    ∃ t, exec (.sethyst code) s = .next t ∧ t.responses = .ok 0 :: s.responses ∧
      t.sensor =
        (if s.platform.exclusive then s.sensor
          else s.sensor.storeWord s.platform.sensorWrite .config v).storeWord s.platform.sensorWrite .config
            ((s.sensor.config &&& 0xF9FF) ||| (BitVec.setWidth 16 code <<< 9)) ∧
      (s.platform.sensorWrite = SensorWrite.default →
        (∀ k, k = 9 ∨ k = 10 → t.sensor.config.getLsbD k = code.getLsbD (k - 9)) ∧
        (∀ k < 16, k ≠ 9 → k ≠ 10 → k ≠ 6 → k ≠ 7 →
          t.sensor.config.getLsbD k = s.sensor.config.getLsbD k) ∧
        (∀ k, k = 6 ∨ k = 7 → t.sensor.config.getLsbD k =
          (s.sensor.config.getLsbD k || (!s.platform.exclusive && v.getLsbD k))))

/-- 10_state.md R41; 70_reset_and_hazards.md R191: a power-on reset while the block is idle clears both lock bits and
gives every other bit of every register the drawn value; the block is untouched. -/
def Obligations.PowerOnResetClearsTheLocks : Prop :=
  ∀ (s : State) (drawn : Sensor) (rest : List Turn), s.Idle → s.turns = .powerOnReset drawn :: rest →
    ∃ t, step s = .next t ∧ t.sensor.winLock = false ∧ t.sensor.critLock = false ∧
      (∀ k, k ≠ 6 → k ≠ 7 → t.sensor.config.getLsbD k = drawn.config.getLsbD k) ∧
      (∀ r, r ≠ .config → t.sensor.word r = drawn.word r) ∧ t.sensor.resolution = drawn.resolution ∧
      t.block = s.block ∧ t.platform = s.platform ∧ t.bus = s.bus ∧ t.responses = s.responses ∧ t.turns = rest

/-- 10_state.md R41 (the model's choice, log 7): when the sensor loses power at a transaction of a command, the command
ends in `TransportError` with that transaction failed and nothing more issued, both lock bits are 0 and every other bit
is as drawn. -/
def Obligations.PowerLossInACommandIsATransportError : Prop :=
  ∀ (i : Instr) (s : State) (drawn : Sensor), PassesChecks i →
    (0 < transactionCount i → s.NoResetThrough 1 → (s.inputAt 0).fate = .powerOnReset drawn →
      ∃ t op, exec i s = .next t ∧ op.succeeded = false ∧
        Finished s t 1 [s.seen 1 op] { drawn with config := drawn.config &&& 0xFF3F }
          (.error (.transportError op.pointer))) ∧
    (transactionCount i = 2 → s.NoResetThrough 2 → s.Succeeds 0 → (s.inputAt 1).fate = .powerOnReset drawn →
      ∃ t op first, exec i s = .next t ∧ op.succeeded = false ∧ first.succeeded = true ∧
        Finished s t 2 [s.seen 2 op, s.seen 1 first] { drawn with config := drawn.config &&& 0xFF3F }
          (.error (.transportError op.pointer)))

/-- 70_reset_and_hazards.md R190: a reset of the block in mid-command abandons the command without a response, and
transactions already completed stay completed: none in the check phase of any command; after it the read of RDTEMP, the
write of SETTHR, the write of SETRES, the first or both reads of GETALRT, the read or both transactions of a
read-modify-write. The instants, the ends of the phases, are the model's reading (log 8). -/
def Obligations.BlockResetAbandonsTheCommand : Prop :=
  (∀ (i : Instr) (s : State), s.resetAfter = some 0 → ∃ t, exec i s = .next t ∧ Abandoned s t 0 [] s.sensor) ∧
  (∀ s : State, s.resetAfter = some 1 → s.Succeeds 0 →
    (∃ t, exec .rdtemp s = .next t ∧ Abandoned s t 1
      [s.seen 1 (.rd16 0x05 (some (swap16 (s.moved 0 s.sensor).tambient)))] (s.moved 0 s.sensor)) ∧
    (∃ t, exec .getalrt s = .next t ∧ Abandoned s t 1
      [s.seen 1 (.rd16 0x05 (some (swap16 (s.moved 0 s.sensor).tambient)))] (s.moved 0 s.sensor)) ∧
    (∀ which v, PassesChecks (.setthr which v) → ∃ t r, exec (.setthr which v) s = .next t ∧
      r.pointer = 0x02 + BitVec.setWidth 8 which ∧
      Abandoned s t 1 [s.seen 1 (.wr16 r.pointer (swap16 (enctWord v)) true)]
        ((s.moved 0 s.sensor).storeWord s.platform.sensorWrite r (enctWord v))) ∧
    (∀ code : Sel, code.toNat ≤ 3 → ∃ t, exec (.setres code) s = .next t ∧
      Abandoned s t 1 [s.seen 1 (.wr8 0x08 (BitVec.setWidth 8 code) true)]
        ((s.moved 0 s.sensor).storeByte s.platform.sensorWrite (BitVec.setWidth 8 code))) ∧
    (∀ i, IsReadModifyWrite i = true → ∃ t, exec i s = .next t ∧ Abandoned s t 1
      [s.seen 1 (.rd16 0x01 (some (swap16 (s.moved 0 s.sensor).config)))] (s.moved 0 s.sensor))) ∧
  (∀ s : State, s.resetAfter = some 2 → s.Succeeds 0 → s.Succeeds 1 →
    (∃ t, exec .getalrt s = .next t ∧ Abandoned s t 2
      [s.seen 2 (.rd16 0x01 (some (swap16 (s.moved 1 (s.moved 0 s.sensor)).config))),
        s.seen 1 (.rd16 0x05 (some (swap16 (s.moved 0 s.sensor).tambient)))]
      (s.moved 1 (s.moved 0 s.sensor))) ∧
    (∀ i, IsReadModifyWrite i = true → ∃ t new, exec i s = .next t ∧
      new &&& ~~~rmwMask i = (s.moved 0 s.sensor).config &&& ~~~rmwMask i ∧
      Abandoned s t 2
        [s.seen 2 (.wr16 0x01 (swap16 new) true),
          s.seen 1 (.rd16 0x01 (some (swap16 (s.moved 0 s.sensor).config)))]
        ((s.moved 1 (s.moved 0 s.sensor)).storeWord s.platform.sensorWrite .config new)))

/-- 20_memory.md R59; 10_state.md R27 (that an access to a pointer without a register is refused is the model's choice,
log 11): another master's byte access to a word register, word access to RESOLUTION, or
access to a pointer without a register is refused. -/
def Obligations.MisfitAccessesAreRefused : Prop :=
  ∀ (s : State) (p : Byte) (primitive : BusPrimitive) (rest : List Turn),
    s.turns = .access p primitive :: rest → s.platform.exclusive = false →
    (1 ≤ p.toNat → p.toNat ≤ 5 → (primitive = .readByte ∨ ∃ v, primitive = .writeByte v) →
      step s = .refused .widthMismatch) ∧
    (p = 0x08 → (primitive = .readWord ∨ ∃ raw, primitive = .writeWord raw) → step s = .refused .widthMismatch) ∧
    ((p.toNat = 0 ∨ p.toNat = 6 ∨ p.toNat = 7 ∨ 8 < p.toNat) → step s = .refused .noRegister)

/-- A step runs the decoded command: with a command word next and the block idle, the step is `exec` of what the word
decodes to, in the state where the word is latched, the check phase begins and the turn is gone; and `withFetchWord`
presents the word as that next turn. That one step runs the whole command, where 10_state.md R20 has a step per phase
and R23 admits a big-step function, is the model's choice (log 1); so are the turns, a reset that arrives in
mid-command among them, and what `withFetchWord` stands for (log 9, log 8). -/
def Obligations.StepRunsThePresentedCommand : Prop :=
  (∀ (s : State) (w : Command) (r : Option Nat) (rest : List Turn), s.Idle → s.turns = .command w r :: rest →
    step s = exec (decode w)
      { s with turns := rest, block := { command := some w, phase := 0, latched := none }, resetAfter := r }) ∧
  (∀ (s : State) (w : Nat), step (s.withFetchWord 56 w) = exec (decode (BitVec.ofNat 56 w))
    { s with block := { command := some (BitVec.ofNat 56 w), phase := 0, latched := none }, resetAfter := none })

/-- The block takes every presented word: from an idle state the step answers a next state, with the next turn up and
the block idle again (30_encoding.md R84, R93; 60_exceptions.md R177; 70_reset_and_hazards.md R207). -/
def Obligations.IdleBlockAcceptsEveryWord : Prop :=
  ∀ (s : State) (w : Command) (r : Option Nat) (rest : List Turn), s.Idle → s.turns = .command w r :: rest →
    ∃ t, step s = .next t ∧ t.Idle ∧ t.turns = rest ∧ t.platform = s.platform

/-- 00_scope.md R5: no rule reads BUS_ID. A step with another bus identifier is the same step. -/
def Obligations.BusIdIsNeverRead : Prop :=
  ∀ (s t : State) (b : Nat), step s = .next t →
    step { s with platform := { s.platform with busId := b } } =
      .next { t with platform := { t.platform with busId := b } }

/-- The invariant every step keeps: the block idle between commands with no reset due, every transaction on its port at
its own address, in phase 1 or 2, of a width and direction that fit the register, TAMBIENT never written, thresholds
written with bits 15:13 zero and RESOLUTION with bits 7:2 zero; and the platform's constants never change (10_state.md
R22, R23, R24, R27, R36; 20_memory.md R60, R71). -/
def Obligations.EveryStepKeepsTheInvariant : Prop :=
  ∀ s t : State, s.Inv → step s = .next t → t.Inv ∧ t.platform = s.platform

/-- The invariant of `EveryStepKeepsTheInvariant` holds after reset: the block idle, nothing on its port
(70_reset_and_hazards.md R190). -/
def Obligations.ResetMeetsTheInvariant : Prop := State.reset.Inv

/-- 70_reset_and_hazards.md R190, R192: after reset the block is idle with no command in flight, the sensor's lock bits
are 0, and the platform's constants are as configured, `SENSOR_WRITE` the default (log 4, log 5). -/
def Obligations.ResetIsIdleAndUnlocked : Prop :=
  State.reset.block.command = none ∧ State.reset.block.latched = none ∧ State.reset.resetAfter = none ∧
    State.reset.sensor.critLock = false ∧ State.reset.sensor.winLock = false ∧
    State.reset.platform = { Config.platform with sensorWrite := SensorWrite.default }

/-- 70_reset_and_hazards.md R190: a reset of the block leaves it idle and does nothing to the sensor. -/
def Obligations.BlockResetLeavesTheSensorAlone : Prop :=
  ∀ (s : State) (rest : List Turn), s.turns = .blockReset :: rest →
    ∃ t, step s = .next t ∧ t.Idle ∧ t.sensor = s.sensor ∧ t.platform = s.platform ∧ t.bus = s.bus ∧
      t.responses = s.responses ∧ t.turns = rest

/-- The turns of the other agents while the block waits (10_state.md R20, R39, R40; 20_memory.md R50, R52): a step of
the sensor acts on the sensor alone; another master's read changes nothing, its raw word write stores its byte swap and
its byte write the byte, as `SENSOR_WRITE` has it, when `EXCLUSIVE` is false, and does not occur when it is true (log
14); with no turn left nothing happens (the model's choice, log 9). -/
def Obligations.OtherAgentsActOnTheSensorAlone : Prop :=
  (∀ (s : State) (a : SensorStep) (rest : List Turn), s.turns = .sensor a :: rest →
    step s = .next { s with turns := rest, sensor := sensorStep a s.sensor }) ∧
  (∀ (s : State) (r : WordReg) (rest : List Turn), s.turns = .access r.pointer .readWord :: rest →
    step s = .next { s with turns := rest }) ∧
  (∀ (s : State) (rest : List Turn), s.turns = .access 0x08 .readByte :: rest →
    step s = .next { s with turns := rest }) ∧
  (∀ (s : State) (r : WordReg) (raw : Word) (rest : List Turn),
    s.turns = .access r.pointer (.writeWord raw) :: rest →
    step s = .next { s with
      turns := rest
      sensor := if s.platform.exclusive then s.sensor
        else s.sensor.storeWord s.platform.sensorWrite r (swap16 raw) }) ∧
  (∀ (s : State) (v : Byte) (rest : List Turn), s.turns = .access 0x08 (.writeByte v) :: rest →
    step s = .next { s with
      turns := rest
      sensor := if s.platform.exclusive then s.sensor else s.sensor.storeByte s.platform.sensorWrite v }) ∧
  (∀ s : State, s.turns = [] → step s = .next s)

/-- 10_state.md R25, R34: the fields of CONFIG are disjoint and fill the word, and so do those of TAMBIENT. -/
def Obligations.FieldsFillTheirRegisters : Prop :=
  configFields.Pairwise (fun f g => f.mask &&& g.mask = 0) ∧
  configFields.foldl (fun w f => w ||| f.mask) 0 = 0xFFFF ∧
  tambientFields.Pairwise (fun f g => f.mask &&& g.mask = 0) ∧
  tambientFields.foldl (fun w f => w ||| f.mask) 0 = 0xFFFF

/-- 70_reset_and_hazards.md R190: a reset of the block at the end of a command's last phase takes away the response and
nothing else, whether the last transaction succeeded, failed, or met a power loss; the last phase is the check phase of
a command it ends in, the first transaction where there is one or it failed, else the second (the instants are the
model's reading, log 8). -/
def Obligations.BlockResetTakesAwayOnlyTheResponse : Prop :=
  ∀ (i : Instr) (s u : State) (last : Nat), s.resetAfter = some last →
    ((last = 0 ∧ (¬ PassesChecks i ∨ transactionCount i = 0)) ∨
      (last = 1 ∧ PassesChecks i ∧ (transactionCount i = 1 ∨ (transactionCount i = 2 ∧ ¬ s.Succeeds 0))) ∨
      (last = 2 ∧ PassesChecks i ∧ transactionCount i = 2 ∧ s.Succeeds 0)) →
    exec i { s with resetAfter := none } = .next u →
    exec i s = .next { u with responses := s.responses }

/-- 20_memory.md R61; 10_state.md R40; 70_reset_and_hazards.md R198: what the sensor does between the two reads of
GETALRT is seen by the second and not by the first, whatever `EXCLUSIVE` and however many steps it takes. So the flags and the
active bit of one answer need never have been true together: a measurement between the reads is not in the flags, an
alert between them is in the active bit. -/
def Obligations.SensorStepsBetweenTheReadsAreSeen : Prop :=
  (∀ (s : State) (first second : List SensorStep) (rest : List TxnInput), s.NoResetThrough 2 →
    s.bus.script = { before := first.map .sensor, fate := .succeeds } ::
      { before := second.map .sensor, fate := .succeeds } :: rest →
    ∃ t d x y, exec .getalrt s = .next t ∧
      x = first.foldl (fun sensor step => sensorStep step sensor) s.sensor ∧
      y = second.foldl (fun sensor step => sensorStep step sensor) x ∧
      Finished s t 2
        [s.seen 2 (.rd16 0x01 (some (swap16 y.config))), s.seen 1 (.rd16 0x05 (some (swap16 x.tambient)))]
        y (.ok d) ∧
      d.toNat = 2 * (x.tambient.toNat / 2 ^ 13) + (if y.config.getLsbD 4 then 1 else 0)) ∧
  (∀ (s : State) (before between : Word) (active : Bool) (rest : List TxnInput), s.NoResetThrough 2 →
    s.bus.script = { before := [.sensor (.measure before)], fate := .succeeds } ::
      { before := [.sensor (.measure between), .sensor (.alert active)], fate := .succeeds } :: rest →
    ∃ t d, exec .getalrt s = .next t ∧ t.responses = .ok d :: s.responses ∧ t.sensor.tambient = between ∧
      d.toNat = 2 * (before.toNat / 2 ^ 13) + (if active then 1 else 0))
end

