-- ==== Sys2Proof/Laws/State.lean ====
section
/-! SUPPORT. One lemma per field per update of the state. -/

namespace Sys2Proof.Machine

/-! `State.withSensor` -/

@[simp] theorem State.withSensor_platform (s : State) (x : Sensor) : (s.withSensor x).platform = s.platform := rfl
@[simp] theorem State.withSensor_block (s : State) (x : Sensor) : (s.withSensor x).block = s.block := rfl
@[simp] theorem State.withSensor_sensor (s : State) (x : Sensor) : (s.withSensor x).sensor = x := rfl
@[simp] theorem State.withSensor_bus (s : State) (x : Sensor) : (s.withSensor x).bus = s.bus := rfl
@[simp] theorem State.withSensor_turns (s : State) (x : Sensor) : (s.withSensor x).turns = s.turns := rfl
@[simp] theorem State.withSensor_resetAfter (s : State) (x : Sensor) : (s.withSensor x).resetAfter = s.resetAfter := rfl
@[simp] theorem State.withSensor_responses (s : State) (x : Sensor) : (s.withSensor x).responses = s.responses := rfl

/-! `respond` -/

@[simp] theorem respond_platform (r : Response) (s : State) : (respond r s).platform = s.platform := rfl
@[simp] theorem respond_block (r : Response) (s : State) : (respond r s).block = Block.idle := rfl
@[simp] theorem respond_sensor (r : Response) (s : State) : (respond r s).sensor = s.sensor := rfl
@[simp] theorem respond_bus (r : Response) (s : State) : (respond r s).bus = s.bus := rfl
@[simp] theorem respond_turns (r : Response) (s : State) : (respond r s).turns = s.turns := rfl
@[simp] theorem respond_resetAfter (r : Response) (s : State) : (respond r s).resetAfter = none := rfl
@[simp] theorem respond_responses (r : Response) (s : State) : (respond r s).responses = r :: s.responses := rfl

/-! `abandon` -/

@[simp] theorem abandon_platform (s : State) : (abandon s).platform = s.platform := rfl
@[simp] theorem abandon_block (s : State) : (abandon s).block = Block.idle := rfl
@[simp] theorem abandon_sensor (s : State) : (abandon s).sensor = s.sensor := rfl
@[simp] theorem abandon_bus (s : State) : (abandon s).bus = s.bus := rfl
@[simp] theorem abandon_turns (s : State) : (abandon s).turns = s.turns := rfl
@[simp] theorem abandon_resetAfter (s : State) : (abandon s).resetAfter = none := rfl
@[simp] theorem abandon_responses (s : State) : (abandon s).responses = s.responses := rfl

/-! `startCheck` -/

@[simp] theorem startCheck_platform (s : State) : (startCheck s).platform = s.platform := rfl
@[simp] theorem startCheck_block_command (s : State) : (startCheck s).block.command = s.block.command := rfl
@[simp] theorem startCheck_block_phase (s : State) : (startCheck s).block.phase = 0 := rfl
@[simp] theorem startCheck_block_latched (s : State) : (startCheck s).block.latched = none := rfl
@[simp] theorem startCheck_sensor (s : State) : (startCheck s).sensor = s.sensor := rfl
@[simp] theorem startCheck_bus (s : State) : (startCheck s).bus = s.bus := rfl
@[simp] theorem startCheck_turns (s : State) : (startCheck s).turns = s.turns := rfl
@[simp] theorem startCheck_resetAfter (s : State) : (startCheck s).resetAfter = s.resetAfter := rfl
@[simp] theorem startCheck_responses (s : State) : (startCheck s).responses = s.responses := rfl

/-! `enterPhase` -/

@[simp] theorem enterPhase_platform (s : State) : (enterPhase s).platform = s.platform := rfl
@[simp] theorem enterPhase_block_command (s : State) : (enterPhase s).block.command = s.block.command := rfl
@[simp] theorem enterPhase_block_phase (s : State) : (enterPhase s).block.phase = s.block.phase + 1 := rfl
@[simp] theorem enterPhase_block_latched (s : State) : (enterPhase s).block.latched = s.block.latched := rfl
@[simp] theorem enterPhase_sensor (s : State) : (enterPhase s).sensor = s.sensor := rfl
@[simp] theorem enterPhase_bus (s : State) : (enterPhase s).bus = s.bus := rfl
@[simp] theorem enterPhase_turns (s : State) : (enterPhase s).turns = s.turns := rfl
@[simp] theorem enterPhase_resetAfter (s : State) : (enterPhase s).resetAfter = s.resetAfter := rfl
@[simp] theorem enterPhase_responses (s : State) : (enterPhase s).responses = s.responses := rfl

/-! `latch` -/

@[simp] theorem latch_platform (w : Word) (s : State) : (latch w s).platform = s.platform := rfl
@[simp] theorem latch_block_command (w : Word) (s : State) : (latch w s).block.command = s.block.command := rfl
@[simp] theorem latch_block_phase (w : Word) (s : State) : (latch w s).block.phase = s.block.phase := rfl
@[simp] theorem latch_block_latched (w : Word) (s : State) : (latch w s).block.latched = some w := rfl
@[simp] theorem latch_sensor (w : Word) (s : State) : (latch w s).sensor = s.sensor := rfl
@[simp] theorem latch_bus (w : Word) (s : State) : (latch w s).bus = s.bus := rfl
@[simp] theorem latch_turns (w : Word) (s : State) : (latch w s).turns = s.turns := rfl
@[simp] theorem latch_resetAfter (w : Word) (s : State) : (latch w s).resetAfter = s.resetAfter := rfl
@[simp] theorem latch_responses (w : Word) (s : State) : (latch w s).responses = s.responses := rfl

/-! `State.takeInput` -/

@[simp] theorem State.takeInput_platform (s : State) : s.takeInput.platform = s.platform := rfl
@[simp] theorem State.takeInput_block (s : State) : s.takeInput.block = s.block := rfl
@[simp] theorem State.takeInput_sensor (s : State) : s.takeInput.sensor = s.sensor := rfl
@[simp] theorem State.takeInput_bus_script (s : State) : s.takeInput.bus.script = s.bus.script.tail := rfl
@[simp] theorem State.takeInput_bus_issued (s : State) : s.takeInput.bus.issued = s.bus.issued + 1 := rfl
@[simp] theorem State.takeInput_bus_trace (s : State) : s.takeInput.bus.trace = s.bus.trace := rfl
@[simp] theorem State.takeInput_turns (s : State) : s.takeInput.turns = s.turns := rfl
@[simp] theorem State.takeInput_resetAfter (s : State) : s.takeInput.resetAfter = s.resetAfter := rfl
@[simp] theorem State.takeInput_responses (s : State) : s.takeInput.responses = s.responses := rfl

/-! `State.arrive` -/

@[simp] theorem State.arrive_platform (s : State) : s.arrive.platform = s.platform := rfl
@[simp] theorem State.arrive_block (s : State) : s.arrive.block = s.block := rfl
@[simp] theorem State.arrive_sensor (s : State) : s.arrive.sensor = s.sensorAtNext := rfl
@[simp] theorem State.arrive_bus_script (s : State) : s.arrive.bus.script = s.bus.script.tail := rfl
@[simp] theorem State.arrive_bus_issued (s : State) : s.arrive.bus.issued = s.bus.issued + 1 := rfl
@[simp] theorem State.arrive_bus_trace (s : State) : s.arrive.bus.trace = s.bus.trace := rfl
@[simp] theorem State.arrive_turns (s : State) : s.arrive.turns = s.turns := rfl
@[simp] theorem State.arrive_resetAfter (s : State) : s.arrive.resetAfter = s.resetAfter := rfl
@[simp] theorem State.arrive_responses (s : State) : s.arrive.responses = s.responses := rfl

/-! `State.record` -/

@[simp] theorem State.record_platform (s : State) (op : BusOp) : (s.record op).platform = s.platform := rfl
@[simp] theorem State.record_block (s : State) (op : BusOp) : (s.record op).block = s.block := rfl
@[simp] theorem State.record_sensor (s : State) (op : BusOp) : (s.record op).sensor = s.sensor := rfl
@[simp] theorem State.record_bus_script (s : State) (op : BusOp) : (s.record op).bus.script = s.bus.script := rfl
@[simp] theorem State.record_bus_issued (s : State) (op : BusOp) : (s.record op).bus.issued = s.bus.issued := rfl
@[simp] theorem State.record_bus_trace (s : State) (op : BusOp) :
    (s.record op).bus.trace = { addr := s.platform.devAddr, phase := s.block.phase, op := op } :: s.bus.trace := rfl
@[simp] theorem State.record_turns (s : State) (op : BusOp) : (s.record op).turns = s.turns := rfl
@[simp] theorem State.record_resetAfter (s : State) (op : BusOp) : (s.record op).resetAfter = s.resetAfter := rfl
@[simp] theorem State.record_responses (s : State) (op : BusOp) : (s.record op).responses = s.responses := rfl

/-! `acceptCommand` -/

@[simp] theorem acceptCommand_platform (w : Command) (r : Option Nat) (s : State) :
    (acceptCommand w r s).platform = s.platform := rfl
@[simp] theorem acceptCommand_block_command (w : Command) (r : Option Nat) (s : State) :
    (acceptCommand w r s).block.command = some w := rfl
@[simp] theorem acceptCommand_block_phase (w : Command) (r : Option Nat) (s : State) :
    (acceptCommand w r s).block.phase = 0 := rfl
@[simp] theorem acceptCommand_block_latched (w : Command) (r : Option Nat) (s : State) :
    (acceptCommand w r s).block.latched = none := rfl
@[simp] theorem acceptCommand_sensor (w : Command) (r : Option Nat) (s : State) :
    (acceptCommand w r s).sensor = s.sensor := rfl
@[simp] theorem acceptCommand_bus (w : Command) (r : Option Nat) (s : State) : (acceptCommand w r s).bus = s.bus := rfl
@[simp] theorem acceptCommand_turns (w : Command) (r : Option Nat) (s : State) :
    (acceptCommand w r s).turns = s.turns := rfl
@[simp] theorem acceptCommand_resetAfter (w : Command) (r : Option Nat) (s : State) :
    (acceptCommand w r s).resetAfter = r := rfl
@[simp] theorem acceptCommand_responses (w : Command) (r : Option Nat) (s : State) :
    (acceptCommand w r s).responses = s.responses := rfl

/-! `State.takeTurn` -/

@[simp] theorem State.takeTurn_platform (s : State) : s.takeTurn.platform = s.platform := rfl
@[simp] theorem State.takeTurn_block (s : State) : s.takeTurn.block = s.block := rfl
@[simp] theorem State.takeTurn_sensor (s : State) : s.takeTurn.sensor = s.sensor := rfl
@[simp] theorem State.takeTurn_bus (s : State) : s.takeTurn.bus = s.bus := rfl
@[simp] theorem State.takeTurn_turns (s : State) : s.takeTurn.turns = s.turns.tail := rfl
@[simp] theorem State.takeTurn_resetAfter (s : State) : s.takeTurn.resetAfter = s.resetAfter := rfl
@[simp] theorem State.takeTurn_responses (s : State) : s.takeTurn.responses = s.responses := rfl

/-! `presentNext` -/

@[simp] theorem presentNext_platform (w : Command) (s : State) : (presentNext w s).platform = s.platform := rfl
@[simp] theorem presentNext_block (w : Command) (s : State) : (presentNext w s).block = Block.idle := rfl
@[simp] theorem presentNext_sensor (w : Command) (s : State) : (presentNext w s).sensor = s.sensor := rfl
@[simp] theorem presentNext_bus (w : Command) (s : State) : (presentNext w s).bus = s.bus := rfl
@[simp] theorem presentNext_turns (w : Command) (s : State) :
    (presentNext w s).turns = .command w none :: s.turns := rfl
@[simp] theorem presentNext_resetAfter (w : Command) (s : State) : (presentNext w s).resetAfter = s.resetAfter := rfl
@[simp] theorem presentNext_responses (w : Command) (s : State) : (presentNext w s).responses = s.responses := rfl

/-! What the coming transactions meet, after an update. -/

theorem State.inputAt_congr {s t : State} (hs : t.bus.script = s.bus.script) (hi : t.bus.issued = s.bus.issued)
    (k : Nat) : t.inputAt k = s.inputAt k := by
  simp [State.inputAt, hs, hi]

@[simp] theorem State.inputAt_withSensor (s : State) (x : Sensor) (k : Nat) :
    (s.withSensor x).inputAt k = s.inputAt k := rfl
@[simp] theorem inputAt_respond (r : Response) (s : State) (k : Nat) : (respond r s).inputAt k = s.inputAt k := rfl
@[simp] theorem inputAt_abandon (s : State) (k : Nat) : (abandon s).inputAt k = s.inputAt k := rfl
@[simp] theorem inputAt_startCheck (s : State) (k : Nat) : (startCheck s).inputAt k = s.inputAt k := rfl
@[simp] theorem inputAt_enterPhase (s : State) (k : Nat) : (enterPhase s).inputAt k = s.inputAt k := rfl
@[simp] theorem inputAt_latch (w : Word) (s : State) (k : Nat) : (latch w s).inputAt k = s.inputAt k := rfl
@[simp] theorem State.inputAt_record (s : State) (op : BusOp) (k : Nat) :
    (s.record op).inputAt k = s.inputAt k := rfl
@[simp] theorem inputAt_acceptCommand (w : Command) (r : Option Nat) (s : State) (k : Nat) :
    (acceptCommand w r s).inputAt k = s.inputAt k := rfl
@[simp] theorem State.inputAt_takeTurn (s : State) (k : Nat) : s.takeTurn.inputAt k = s.inputAt k := rfl

/-- Taking an input moves every later one forward by one. -/
@[simp] theorem State.inputAt_takeInput (s : State) (k : Nat) : s.takeInput.inputAt k = s.inputAt (k + 1) := by
  simp [State.inputAt, Nat.add_comm, Nat.add_left_comm]

@[simp] theorem State.inputAt_arrive (s : State) (k : Nat) : s.arrive.inputAt k = s.inputAt (k + 1) :=
  State.inputAt_takeInput s k

/-- Two inputs used are two entries dropped. -/
@[simp] theorem tail_tail_eq_drop_two {α : Type} (l : List α) : l.tail.tail = l.drop 2 := by
  match l with
  | [] => rfl
  | [_] => rfl
  | _ :: _ :: _ => rfl

/-- The scripted entries come first. -/
theorem State.inputAt_of_script {s : State} {k : Nat} {x : TxnInput} (h : s.bus.script[k]? = some x) :
    s.inputAt k = x := by
  simp [State.inputAt, h]

end Sys2Proof.Machine
end

