-- ==== Sys2Proof/Laws/Bus.lean ====
section
/-! SUPPORT. What the bus primitives do, said once: the byte swap cancels, and each phase ends in the command going
on or in a reset, and each normalized primitive ends in one way per fate. -/

namespace Sys2Proof.Machine

/-- Each bit of a swapped word (20_memory.md R52). -/
theorem getLsbD_swap16 (w : Word) {i : Nat} (h : i < 16) :
    (swap16 w).getLsbD i = if i < 8 then w.getLsbD (i + 8) else w.getLsbD (i - 8) := by
  simp only [swap16, BitVec.getLsbD_append, BitVec.getLsbD_extractLsb']
  by_cases h8 : i < 8
  · simp [h8, Nat.add_comm]
  · have : i - 8 < 8 := by omega
    simp [h8, this]

/-- The swap is its own inverse (20_memory.md R57). -/
@[simp] theorem swap16_swap16 (w : Word) : swap16 (swap16 w) = w := by
  apply BitVec.eq_of_getLsbD_eq
  intro i hi
  rw [getLsbD_swap16 _ hi]
  split
  · rw [getLsbD_swap16 _ (by omega)]
    simp
  · rw [getLsbD_swap16 _ (by omega), if_pos (by omega)]
    congr 1
    omega

@[simp] theorem sensorAtNext_enterPhase (s : State) : (enterPhase s).sensorAtNext = s.sensorAtNext := rfl
@[simp] theorem sensorAtNext_startCheck (s : State) : (startCheck s).sensorAtNext = s.sensorAtNext := rfl
@[simp] theorem sensorAtNext_latch (w : Word) (s : State) : (latch w s).sensorAtNext = s.sensorAtNext := rfl
@[simp] theorem sensorAtNext_record (s : State) (op : BusOp) : (s.record op).sensorAtNext = s.sensorAtNext := rfl
@[simp] theorem sensorAtNext_acceptCommand (w : Command) (r : Option Nat) (s : State) :
    (acceptCommand w r s).sensorAtNext = s.sensorAtNext := rfl

/-- After a transaction's input is taken, the next transaction meets the next input. -/
theorem sensorAtNext_arrive (s : State) :
    s.arrive.sensorAtNext = agentSteps s.platform (s.inputAt 1).before s.sensorAtNext := by
  simp [State.sensorAtNext]

/-- The same where the transaction has left another sensor behind. -/
theorem sensorAtNext_arrive_withSensor (s : State) (x : Sensor) :
    (s.arrive.withSensor x).sensorAtNext = agentSteps s.platform (s.inputAt 1).before x := by
  simp [State.sensorAtNext]

/-- The end of a phase: the command goes on, or a reset of the block abandons it (70_reset_and_hazards.md R190). -/
theorem endPhase_spec (P : State → Prop) (k : State → State) (s : State)
    (goes : s.resetAfter ≠ some s.block.phase → P (k s)) (reset : s.resetAfter = some s.block.phase → P (abandon s)) :
    P (endPhase k s) := by
  unfold endPhase
  split
  next h => exact reset h
  next h => exact goes h

/-- What a response at the end of a phase comes to: none when a reset of the block comes first. -/
def State.answer (s : State) (phase : Nat) (r : Response) : Option Response :=
  if s.resetAfter = some phase then none else some r

/-- A response at the end of a phase, field by field. -/
theorem endPhase_respond (r : Response) (s : State) :
    endPhase (respond r) s =
      { s with block := Block.idle, resetAfter := none,
               responses := (s.answer s.block.phase r).toList ++ s.responses } := by
  unfold endPhase State.answer
  split <;> rfl

/-- An error at the end of a phase is a response. -/
theorem endPhase_raise (kind : CommandError) (s : State) :
    endPhase (raise kind) s = endPhase (respond (.error kind)) s := rfl

/-- The check phase: the command goes on, or a reset of the block abandons it (30_encoding.md R93;
70_reset_and_hazards.md R190). -/
theorem checkPhase_spec (P : State → Prop) (k : State → State) (s : State)
    (goes : s.resetAfter ≠ some 0 → P (k (startCheck s))) (reset : s.resetAfter = some 0 → P (abandon (startCheck s))) :
    P (checkPhase k s) :=
  endPhase_spec P k (startCheck s) goes reset

/-- Everything `MemRead(r, 2)` can do, up to a reset at the end of its phase (20_memory.md R53, R64; 60_exceptions.md
R171; 10_state.md R41). -/
theorem memReadWord_spec (P : State → Prop) (r : WordReg) (k : Word → State → State) (s : State)
    (value : (s.inputAt 0).fate = .succeeds → P (endPhase (k (s.sensorAtNext.word r))
      ((enterPhase s).arrive.record (.rd16 r.pointer (some (swap16 (s.sensorAtNext.word r)))))))
    (failed : ∀ stored, (s.inputAt 0).fate = .fails stored →
      P (endPhase (raise (.transportError r.pointer)) ((enterPhase s).arrive.record (.rd16 r.pointer none))))
    (lost : ∀ drawn, (s.inputAt 0).fate = .powerOnReset drawn → P (endPhase (raise (.transportError r.pointer))
      (((enterPhase s).arrive.withSensor (powerOnReset drawn)).record (.rd16 r.pointer none)))) :
    P (memReadWord r k s) := by
  unfold memReadWord rawReadWord
  simp only [inputAt_enterPhase, sensorAtNext_enterPhase]
  cases h : (s.inputAt 0).fate with
  | succeeds => simpa [afterReply] using value h
  | fails stored => exact failed stored h
  | powerOnReset drawn => exact lost drawn h

/-- Everything `MemWrite(r, 2, v)` can do, up to a reset at the end of its phase (20_memory.md R54, R64;
60_exceptions.md R171; 10_state.md R41). -/
theorem memWriteWord_spec (P : State → Prop) (r : WordReg) (v : Word) (k : State → State) (s : State)
    (value : (s.inputAt 0).fate = .succeeds → P (endPhase k
      (((enterPhase s).arrive.withSensor (s.sensorAtNext.storeWord s.platform.sensorWrite r v)).record
        (.wr16 r.pointer (swap16 v) true))))
    (stored : (s.inputAt 0).fate = .fails true → P (endPhase (raise (.transportError r.pointer))
      (((enterPhase s).arrive.withSensor (s.sensorAtNext.storeWord s.platform.sensorWrite r v)).record
        (.wr16 r.pointer (swap16 v) false))))
    (unstored : (s.inputAt 0).fate = .fails false → P (endPhase (raise (.transportError r.pointer))
      ((enterPhase s).arrive.record (.wr16 r.pointer (swap16 v) false))))
    (lost : ∀ drawn, (s.inputAt 0).fate = .powerOnReset drawn → P (endPhase (raise (.transportError r.pointer))
      (((enterPhase s).arrive.withSensor (powerOnReset drawn)).record (.wr16 r.pointer (swap16 v) false)))) :
    P (memWriteWord r v k s) := by
  unfold memWriteWord rawWriteWord
  simp only [inputAt_enterPhase, sensorAtNext_enterPhase, swap16_swap16, enterPhase_platform]
  cases h : (s.inputAt 0).fate with
  | succeeds => exact value h
  | fails b => cases b with
    | true => exact stored h
    | false => exact unstored h
  | powerOnReset drawn => exact lost drawn h

/-- Everything `MemWrite(0x08, 1, v)` can do, up to a reset at the end of its phase (20_memory.md R56, R64). -/
theorem memWriteByte_spec (P : State → Prop) (v : Byte) (k : State → State) (s : State)
    (value : (s.inputAt 0).fate = .succeeds → P (endPhase k
      (((enterPhase s).arrive.withSensor (s.sensorAtNext.storeByte s.platform.sensorWrite v)).record
        (.wr8 resolutionPointer v true))))
    (stored : (s.inputAt 0).fate = .fails true → P (endPhase (raise (.transportError resolutionPointer))
      (((enterPhase s).arrive.withSensor (s.sensorAtNext.storeByte s.platform.sensorWrite v)).record
        (.wr8 resolutionPointer v false))))
    (unstored : (s.inputAt 0).fate = .fails false → P (endPhase (raise (.transportError resolutionPointer))
      ((enterPhase s).arrive.record (.wr8 resolutionPointer v false))))
    (lost : ∀ drawn, (s.inputAt 0).fate = .powerOnReset drawn → P (endPhase (raise (.transportError resolutionPointer))
      (((enterPhase s).arrive.withSensor (powerOnReset drawn)).record (.wr8 resolutionPointer v false)))) :
    P (memWriteByte v k s) := by
  unfold memWriteByte rawWriteByte
  simp only [inputAt_enterPhase, sensorAtNext_enterPhase, enterPhase_platform]
  cases h : (s.inputAt 0).fate with
  | succeeds => exact value h
  | fails b => cases b with
    | true => exact stored h
    | false => exact unstored h
  | powerOnReset drawn => exact lost drawn h

/-- Everything `MemRead(0x08, 1)` can do, up to a reset at the end of its phase (20_memory.md R55, R64). -/
theorem memReadByte_spec (P : State → Prop) (k : Byte → State → State) (s : State)
    (value : (s.inputAt 0).fate = .succeeds → P (endPhase (k s.sensorAtNext.resolution)
      ((enterPhase s).arrive.record (.rd8 resolutionPointer (some s.sensorAtNext.resolution)))))
    (failed : ∀ stored, (s.inputAt 0).fate = .fails stored →
      P (endPhase (raise (.transportError resolutionPointer))
        ((enterPhase s).arrive.record (.rd8 resolutionPointer none))))
    (lost : ∀ drawn, (s.inputAt 0).fate = .powerOnReset drawn → P (endPhase (raise (.transportError resolutionPointer))
      (((enterPhase s).arrive.withSensor (powerOnReset drawn)).record (.rd8 resolutionPointer none)))) :
    P (memReadByte k s) := by
  unfold memReadByte rawReadByte
  simp only [inputAt_enterPhase, sensorAtNext_enterPhase]
  cases h : (s.inputAt 0).fate with
  | succeeds => exact value h
  | fails stored => exact failed stored h
  | powerOnReset drawn => exact lost drawn h

/-- `MemRead(r, 2)` when the transaction succeeds (20_memory.md R57). -/
theorem memReadWord_succeeds {s : State} (h : (s.inputAt 0).fate = .succeeds) (r : WordReg)
    (k : Word → State → State) :
    memReadWord r k s = endPhase (k (s.sensorAtNext.word r))
      ((enterPhase s).arrive.record (.rd16 r.pointer (some (swap16 (s.sensorAtNext.word r))))) := by
  simp [memReadWord, rawReadWord, h, afterReply]

/-- `MemWrite(r, 2, v)` when the transaction succeeds (20_memory.md R57). -/
theorem memWriteWord_succeeds {s : State} (h : (s.inputAt 0).fate = .succeeds) (r : WordReg) (v : Word)
    (k : State → State) :
    memWriteWord r v k s = endPhase k
      (((enterPhase s).arrive.withSensor (s.sensorAtNext.storeWord s.platform.sensorWrite r v)).record
        (.wr16 r.pointer (swap16 v) true)) := by
  simp [memWriteWord, rawWriteWord, h, afterReply]

/-- `MemWrite(0x08, 1, v)` when the transaction succeeds (20_memory.md R56). -/
theorem memWriteByte_succeeds {s : State} (h : (s.inputAt 0).fate = .succeeds) (v : Byte) (k : State → State) :
    memWriteByte v k s = endPhase k
      (((enterPhase s).arrive.withSensor (s.sensorAtNext.storeByte s.platform.sensorWrite v)).record
        (.wr8 resolutionPointer v true)) := by
  simp [memWriteByte, rawWriteByte, h, afterReply]

/-- A check passes or raises `InvalidConfiguration` (30_encoding.md R85 b). -/
theorem checkSel_spec (P : State → Prop) (legal : Bool) (sel : Sel) (k : State → State) (s : State)
    (pass : legal = true → P (k s)) (bad : legal = false → P (raise (.invalidConfiguration sel) s)) :
    P (checkSel legal sel k s) := by
  cases legal
  · exact bad rfl
  · exact pass rfl

/-- A check passes or raises `RangeError` (40_codec.md R104). -/
theorem checkRange_spec (P : State → Prop) (t : Tval) (k : State → State) (s : State)
    (pass : outOfRange t = false → P (k s)) (bad : outOfRange t = true → P (raise (.rangeError t) s)) :
    P (checkRange t k s) := by
  cases h : outOfRange t
  · simpa [checkRange, h] using pass h
  · simpa [checkRange, h] using bad h

end Sys2Proof.Machine
end

