-- ==== Sys2Proof/Laws/Codec.lean ====
section
/-! SUPPORT. The operand operations bit by bit. -/

namespace Sys2Proof.Machine

/-- Each bit of a packed word (40_codec.md R106). -/
theorem getLsbD_packField (current mask : Word) (shift : Sel) (value : Word) {i : Nat} (h : i < 16) :
    (packField current mask shift value).getLsbD i =
      if mask.getLsbD i then (decide (shift.toNat ≤ i) && value.getLsbD (i - shift.toNat)) else current.getLsbD i := by
  simp only [packField, BitVec.getLsbD_or, BitVec.getLsbD_and, BitVec.getLsbD_not, BitVec.getLsbD_shiftLeft, h,
    decide_true, Bool.true_and]
  have hs : decide (shift.toNat ≤ i) = !decide (i < shift.toNat) := by simp [← decide_not]
  cases mask.getLsbD i <;> simp [hs]

/-- Each bit of a selected field (40_codec.md R108). -/
theorem getLsbD_selectField (word mask : Word) (shift : Sel) (i : Nat) :
    (selectField word mask shift).getLsbD i =
      (word.getLsbD (shift.toNat + i) && mask.getLsbD (shift.toNat + i)) := by
  simp [selectField]

/-- The range test in integers (40_codec.md R104). -/
theorem outOfRange_iff (t : Tval) : outOfRange t = true ↔ traw t < -16777216 ∨ 16773120 < traw t := by
  simp [outOfRange]

end Sys2Proof.Machine
end

