-- ==== Sys2Proof/Laws/Sensor.lean ====
section
/-! SUPPORT. The sensor's registers: read after write, and what no write and no step changes. -/

namespace Sys2Proof.Machine

@[simp] theorem Sensor.word_setWord (x : Sensor) (r : WordReg) (v : Word) : (x.setWord r v).word r = v := by
  cases r <;> rfl

theorem Sensor.word_setWord_other (x : Sensor) {r q : WordReg} (h : q ≠ r) (v : Word) :
    (x.setWord r v).word q = x.word q := by
  cases r <;> cases q <;> first | rfl | exact absurd rfl h

@[simp] theorem Sensor.resolution_setWord (x : Sensor) (r : WordReg) (v : Word) :
    (x.setWord r v).resolution = x.resolution := by
  cases r <;> rfl

@[simp] theorem Sensor.word_storeWord (x : Sensor) (how : SensorWrite) (r : WordReg) (v : Word) :
    (x.storeWord how r v).word r = sensorWrite how x r v := by
  simp [Sensor.storeWord]

theorem Sensor.word_storeWord_other (x : Sensor) (how : SensorWrite) {r q : WordReg} (h : q ≠ r) (v : Word) :
    (x.storeWord how r v).word q = x.word q :=
  Sensor.word_setWord_other x h _

@[simp] theorem Sensor.resolution_storeWord (x : Sensor) (how : SensorWrite) (r : WordReg) (v : Word) :
    (x.storeWord how r v).resolution = x.resolution := by
  simp [Sensor.storeWord]

@[simp] theorem Sensor.resolution_storeByte (x : Sensor) (how : SensorWrite) (v : Byte) :
    (x.storeByte how v).resolution = sensorWriteByte how x v := rfl

@[simp] theorem Sensor.word_storeByte (x : Sensor) (how : SensorWrite) (v : Byte) (r : WordReg) :
    (x.storeByte how v).word r = x.word r := by
  cases r <;> rfl

@[simp] theorem KeptBits.word_none (r : WordReg) : KeptBits.none.word r = 0 := by cases r <;> rfl

/-- Under the default `SENSOR_WRITE` nothing is kept (10_state.md R38). -/
@[simp] theorem keptWord_default (x : Sensor) (r : WordReg) : keptWord SensorWrite.default x r = 0 := by
  simp [keptWord, SensorWrite.default]

/-- With no lock bit set only the bits that are always kept are kept (70_reset_and_hazards.md R208). -/
theorem keptWord_unlocked {x : Sensor} (hw : x.winLock = false) (hc : x.critLock = false) (how : SensorWrite)
    (r : WordReg) : keptWord how x r = how.always.word r := by
  simp [keptWord, hw, hc]

/-- Each bit of a written register: kept, or as the default write has it. -/
theorem getLsbD_sensorWrite (how : SensorWrite) (x : Sensor) (r : WordReg) (v : Word) (i : Nat) :
    (sensorWrite how x r v).getLsbD i =
      if (keptWord how x r).getLsbD i then (x.word r).getLsbD i else (defaultWrite r (x.word r) v).getLsbD i := by
  by_cases hi : i < 16
  · simp only [sensorWrite, BitVec.getLsbD_or, BitVec.getLsbD_and, BitVec.getLsbD_not, hi]
    cases (keptWord how x r).getLsbD i <;> simp
  · simp [BitVec.getLsbD_of_ge _ i (Nat.le_of_not_lt hi)]

/-- Each bit of RESOLUTION after a write: kept, or the bit written. -/
theorem getLsbD_sensorWriteByte (how : SensorWrite) (x : Sensor) (v : Byte) (i : Nat) :
    (sensorWriteByte how x v).getLsbD i =
      if (keptByte how x).getLsbD i then x.resolution.getLsbD i else v.getLsbD i := by
  by_cases hi : i < 8
  · simp only [sensorWriteByte, BitVec.getLsbD_or, BitVec.getLsbD_and, BitVec.getLsbD_not, hi]
    cases (keptByte how x).getLsbD i <;> simp
  · simp [BitVec.getLsbD_of_ge _ i (Nat.le_of_not_lt hi)]

/-- The kept bits of a word register are those `SENSOR_WRITE` names for the locks that are set
(70_reset_and_hazards.md R208). -/
theorem getLsbD_keptWord (how : SensorWrite) (x : Sensor) (r : WordReg) (i : Nat) :
    (keptWord how x r).getLsbD i = true ↔ how.Keeps x (fun kept => (kept.word r).getLsbD i) := by
  unfold keptWord SensorWrite.Keeps
  simp only [BitVec.getLsbD_or]
  cases x.winLock <;> cases x.critLock <;> simp [or_assoc]

/-- The kept bits of RESOLUTION are those `SENSOR_WRITE` names for the locks that are set. -/
theorem getLsbD_keptByte (how : SensorWrite) (x : Sensor) (i : Nat) :
    (keptByte how x).getLsbD i = true ↔ how.Keeps x (fun kept => kept.resolution.getLsbD i) := by
  unfold keptByte SensorWrite.Keeps
  simp only [BitVec.getLsbD_or]
  cases x.winLock <;> cases x.critLock <;> simp [or_assoc]

/-- Where nothing is kept a write is the default write (10_state.md R38). -/
theorem sensorWrite_of_kept_none {how : SensorWrite} {x : Sensor} {r : WordReg} (h : keptWord how x r = 0) (v : Word) :
    sensorWrite how x r v = defaultWrite r (x.word r) v := by
  apply BitVec.eq_of_getLsbD_eq
  intro i _
  simp [getLsbD_sensorWrite, h]

/-- A write never changes TAMBIENT, whatever is kept. -/
@[simp] theorem sensorWrite_tambient (how : SensorWrite) (x : Sensor) (v : Word) :
    sensorWrite how x .tambient v = x.tambient := by
  rw [sensorWrite_of_kept_none (by simp [keptWord, KeptBits.word])]
  rfl

/-- Two sensors are equal when every register is. -/
theorem Sensor.ext_words {x y : Sensor} (hw : ∀ r, x.word r = y.word r) (hr : x.resolution = y.resolution) :
    x = y := by
  cases x; cases y
  simp only [Sensor.mk.injEq]
  exact ⟨hw .config, hw .tupper, hw .tlower, hw .tcrit, hw .tambient, hr⟩

/-- Each bit of CONFIG after a default write: bit 4 keeps the old value, bits 6 and 7 are set-only, the rest is stored
(10_state.md R38). -/
theorem getLsbD_configWrite (old v : Word) (i : Nat) :
    (configWrite old v).getLsbD i =
      if i = 4 then old.getLsbD 4 else if i = 6 ∨ i = 7 then (old.getLsbD i || v.getLsbD i) else v.getLsbD i := by
  by_cases h : i < 16
  · interval_cases i <;> simp [configWrite, Bool.or_comm]
  · have hw : ∀ w : Word, w.getLsbD i = false := fun w => BitVec.getLsbD_of_ge w i (by omega)
    have h4 : i ≠ 4 := by omega
    have h67 : ¬(i = 6 ∨ i = 7) := by omega
    simp [hw, h4, h67]

/-- The word register at its own pointer. -/
@[simp] theorem WordReg.ofPointer_pointer (r : WordReg) : WordReg.ofPointer r.pointer = some r := by
  cases r <;> rfl

@[simp] theorem agentSteps_nil (platform : Platform) (x : Sensor) : agentSteps platform [] x = x := rfl

@[simp] theorem agentSteps_cons (platform : Platform) (a : AgentStep) (rest : List AgentStep) (x : Sensor) :
    agentSteps platform (a :: rest) x = agentSteps platform rest (agentStep platform x a) := rfl

/-- Where only the sensor moves, it takes its own steps in order, whatever `EXCLUSIVE` (10_state.md R40). -/
theorem agentSteps_sensor (platform : Platform) (steps : List SensorStep) (x : Sensor) :
    agentSteps platform (steps.map .sensor) x = steps.foldl (fun y a => sensorStep a y) x := by
  induction steps generalizing x with
  | nil => rfl
  | cons a rest ih => exact ih _

/-- What every step of another agent keeps, any number of them keep. -/
theorem agentSteps_keeps {P : Sensor → Prop} {platform : Platform}
    (h : ∀ x a, P x → P (agentStep platform x a)) (steps : List AgentStep) (x : Sensor) (hx : P x) :
    P (agentSteps platform steps x) := by
  induction steps generalizing x with
  | nil => exact hx
  | cons a rest ih => exact ih _ (h x a hx)

end Sys2Proof.Machine
end

