-- ==== Sys2Proof/Laws/Exec.lean ====
section
/-! SUPPORT. Everything one command can do, said once: `exec_ran`. A command is answered in its check phase, or its
first transaction ends it, or its second does; how a transaction ends it depends on its fate alone. -/

namespace Sys2Proof.Machine

/-- The error the check phase raises, if it raises one (30_encoding.md R93). -/
def checkError : Instr → Option CommandError
  | .dect _ => none
  | .enct t => if outOfRange t then some (.rangeError t) else none
  | .packf _ _ _ _ => none
  | .self _ _ _ => none
  | .rdtemp => none
  | .setthr which t =>
    if legalThreshold which then (if outOfRange t then some (.rangeError t) else none)
    else some (.invalidConfiguration which)
  | .setres code => if legalCode code then none else some (.invalidConfiguration code)
  | .sethyst code => if legalCode code then none else some (.invalidConfiguration code)
  | .setshdn flag => if legalBoolean flag then none else some (.invalidConfiguration flag)
  | .setclk flag => if legalBoolean flag then none else some (.invalidConfiguration flag)
  | .setwlk flag => if legalBoolean flag then none else some (.invalidConfiguration flag)
  | .setalrt _ _ _ _ => none
  | .getalrt => none
  | .clrint => none
  | .reservedE => some .invalidCommand
  | .reservedF => some .invalidCommand

/-- The data a codec command answers (30_encoding.md R88). -/
def codecData : Instr → Option (BitVec 32)
  | .dect raw13 => some (dectData raw13)
  | .enct t => some (zext32 (enctWord t))
  | .packf current mask shift value => some (zext32 (packField current mask shift value))
  | .self word mask shift => some (zext32 (selectField word mask shift))
  | .rdtemp => none
  | .setthr _ _ => none
  | .setres _ => none
  | .sethyst _ => none
  | .setshdn _ => none
  | .setclk _ => none
  | .setwlk _ => none
  | .setalrt _ _ _ _ => none
  | .getalrt => none
  | .clrint => none
  | .reservedE => none
  | .reservedF => none

/-- The `modify` function of a read-modify-write command (42_driver_config.md R140). -/
def modifyOf : Instr → Option (Word → Word)
  | .dect _ => none
  | .enct _ => none
  | .packf _ _ _ _ => none
  | .self _ _ _ => none
  | .rdtemp => none
  | .setthr _ _ => none
  | .setres _ => none
  | .sethyst code => some (modifyHyst code)
  | .setshdn flag => some (modifyShdn flag)
  | .setclk flag => some (modifyCritLock flag)
  | .setwlk flag => some (modifyWinLock flag)
  | .setalrt enabled select polarity mode => some (modifyAlerts (alertSel enabled select polarity mode))
  | .getalrt => none
  | .clrint => some modifyIntClr
  | .reservedE => none
  | .reservedF => none

/-- `t` is `s` after a command: `n` inputs used, these records on the port, this sensor, this response if any. -/
def State.finish (s : State) (n : Nat) (records : List BusRecord) (sensor : Sensor) (out : Option Response) : State :=
  { platform := s.platform, block := Block.idle, resetAfter := none, sensor := sensor,
    bus := { script := s.bus.script.drop n, issued := s.bus.issued + n, trace := records ++ s.bus.trace },
    turns := s.turns, responses := out.toList ++ s.responses }

/-- The sensor after a read with this fate. -/
def Fate.afterRead (fate : Fate) (sensor : Sensor) : Sensor :=
  match fate with
  | .succeeds => sensor
  | .fails _ => sensor
  | .powerOnReset drawn => Sys2Proof.Machine.powerOnReset drawn

/-- The sensor after a write with this fate: `new` is what a successful write makes of `old`. -/
def Fate.afterWrite (fate : Fate) (old new : Sensor) : Sensor :=
  match fate with
  | .succeeds => new
  | .fails stored => if stored then new else old
  | .powerOnReset drawn => Sys2Proof.Machine.powerOnReset drawn

/-- What the port shows of a transaction with this fate: `good` when it completed, `bad` when it failed. -/
def Fate.shows (fate : Fate) (good bad : BusRecord) : BusRecord :=
  match fate with
  | .succeeds => good
  | .fails _ => bad
  | .powerOnReset _ => bad

/-- What the port shows of a transaction is one of its two records. -/
theorem Fate.shows_cases (fate : Fate) (good bad : BusRecord) :
    fate.shows good bad = good ∨ fate.shows good bad = bad := by
  cases fate
  · exact .inl rfl
  · exact .inr rfl
  · exact .inr rfl

/-- A read changes nothing unless the sensor loses power. -/
theorem Fate.afterRead_of_not_powerOnReset {fate : Fate} (h : fate.isPowerOnReset = false) (x : Sensor) :
    fate.afterRead x = x := by
  cases fate with
  | succeeds => rfl
  | fails _ => rfl
  | powerOnReset _ => cases h

/-- A write leaves old or new unless the sensor loses power. -/
theorem Fate.afterWrite_of_not_powerOnReset {fate : Fate} (h : fate.isPowerOnReset = false) (old new : Sensor) :
    fate.afterWrite old new = old ∨ fate.afterWrite old new = new := by
  cases fate with
  | succeeds => exact .inr rfl
  | fails stored => cases stored <;> simp [Fate.afterWrite]
  | powerOnReset _ => cases h

/-- Where no other agent moves, the sensor is as it was. -/
theorem State.moved_of_quiet {s : State} {k : Nat} (h : s.Quiet k) (x : Sensor) : s.moved k x = x := by
  have hb : (s.inputAt k).before = [] := h
  rw [State.moved, hb, agentSteps_nil]

/-- The response of a command that a transaction with this fate ends: `ok` when it succeeded, else `TransportError`. -/
def Fate.answers (fate : Fate) (pointer : Byte) (ok : Response) : Response :=
  match fate with
  | .succeeds => ok
  | .fails _ => .error (.transportError pointer)
  | .powerOnReset _ => .error (.transportError pointer)

/-- Everything one command can do, by how far it gets (30_encoding.md R93; 20_memory.md R60). The response is
`State.answer`: none when a reset of the block arrives at the end of the command's last phase. -/
inductive Ran (i : Instr) (s : State) : State → Prop
  /-- A reset of the block in the check phase. -/
  | abandoned (hr : s.resetAfter = some 0) : Ran i s (s.finish 0 [] s.sensor none)
  /-- The check phase raised an error. -/
  | refused (hr : s.resetAfter ≠ some 0) (kind : CommandError) (h : checkError i = some kind) :
    Ran i s (s.finish 0 [] s.sensor (some (.error kind)))
  /-- A codec command answered. -/
  | codec (hr : s.resetAfter ≠ some 0) (data : BitVec 32) (h : checkError i = none) (hd : codecData i = some data) :
    Ran i s (s.finish 0 [] s.sensor (some (.ok data)))
  /-- RDTEMP and its one read. -/
  | temperature (hr : s.resetAfter ≠ some 0) (hi : i = .rdtemp) :
    Ran i s (s.finish 1
      [(s.inputAt 0).fate.shows (s.seen 1 (.rd16 0x05 (some (swap16 (s.moved 0 s.sensor).tambient))))
        (s.seen 1 (.rd16 0x05 none))]
      ((s.inputAt 0).fate.afterRead (s.moved 0 s.sensor))
      (s.answer 1
        ((s.inputAt 0).fate.answers 0x05 (.ok (dectData ((s.moved 0 s.sensor).tambient &&& 0x1FFF))))))
  /-- SETTHR and its one write. -/
  | threshold (hr : s.resetAfter ≠ some 0) (which : Sel) (v : Tval) (hi : i = .setthr which v)
      (h : checkError i = none) :
    Ran i s (s.finish 1
      [(s.inputAt 0).fate.shows (s.seen 1 (.wr16 (thresholdReg which).pointer (swap16 (enctWord v)) true))
        (s.seen 1 (.wr16 (thresholdReg which).pointer (swap16 (enctWord v)) false))]
      ((s.inputAt 0).fate.afterWrite (s.moved 0 s.sensor)
        ((s.moved 0 s.sensor).storeWord s.platform.sensorWrite (thresholdReg which) (enctWord v)))
      (s.answer 1 ((s.inputAt 0).fate.answers (thresholdReg which).pointer (.ok 0))))
  /-- SETRES and its one write. -/
  | resolution (hr : s.resetAfter ≠ some 0) (code : Sel) (hi : i = .setres code) (h : checkError i = none) :
    Ran i s (s.finish 1
      [(s.inputAt 0).fate.shows (s.seen 1 (.wr8 0x08 ((code.extractLsb' 0 2).setWidth 8) true))
        (s.seen 1 (.wr8 0x08 ((code.extractLsb' 0 2).setWidth 8) false))]
      ((s.inputAt 0).fate.afterWrite (s.moved 0 s.sensor)
        ((s.moved 0 s.sensor).storeByte s.platform.sensorWrite ((code.extractLsb' 0 2).setWidth 8)))
      (s.answer 1 ((s.inputAt 0).fate.answers 0x08 (.ok 0))))
  /-- GETALRT, ended by its first read or by a reset after it. -/
  | alertFirst (hr : s.resetAfter ≠ some 0) (hi : i = .getalrt)
      (h0 : (s.inputAt 0).fate ≠ .succeeds ∨ s.resetAfter = some 1) :
    Ran i s (s.finish 1
      [(s.inputAt 0).fate.shows (s.seen 1 (.rd16 0x05 (some (swap16 (s.moved 0 s.sensor).tambient))))
        (s.seen 1 (.rd16 0x05 none))]
      ((s.inputAt 0).fate.afterRead (s.moved 0 s.sensor))
      (s.answer 1 (.error (.transportError 0x05))))
  /-- GETALRT, its first read done, ended by its second. -/
  | alertSecond (hr : s.resetAfter ≠ some 0) (hi : i = .getalrt) (h0 : (s.inputAt 0).fate = .succeeds)
      (h1 : s.resetAfter ≠ some 1) :
    Ran i s (s.finish 2
      [(s.inputAt 1).fate.shows
          (s.seen 2 (.rd16 0x01 (some (swap16 (s.moved 1 (s.moved 0 s.sensor)).config))))
          (s.seen 2 (.rd16 0x01 none)),
        s.seen 1 (.rd16 0x05 (some (swap16 (s.moved 0 s.sensor).tambient)))]
      ((s.inputAt 1).fate.afterRead (s.moved 1 (s.moved 0 s.sensor)))
      (s.answer 2 ((s.inputAt 1).fate.answers 0x01 (.ok (alertData (cmpFlags (s.moved 0 s.sensor).tambient)
        (alertActive (s.moved 1 (s.moved 0 s.sensor)).config))))))
  /-- A read-modify-write, ended by its read or by a reset after it. -/
  | modifyFirst (hr : s.resetAfter ≠ some 0) (modify : Word → Word) (hm : modifyOf i = some modify)
      (h : checkError i = none) (h0 : (s.inputAt 0).fate ≠ .succeeds ∨ s.resetAfter = some 1) :
    Ran i s (s.finish 1
      [(s.inputAt 0).fate.shows (s.seen 1 (.rd16 0x01 (some (swap16 (s.moved 0 s.sensor).config))))
        (s.seen 1 (.rd16 0x01 none))]
      ((s.inputAt 0).fate.afterRead (s.moved 0 s.sensor))
      (s.answer 1 (.error (.transportError 0x01))))
  /-- A read-modify-write, its read done, ended by its write. -/
  | modifySecond (hr : s.resetAfter ≠ some 0) (modify : Word → Word) (hm : modifyOf i = some modify)
      (h : checkError i = none) (h0 : (s.inputAt 0).fate = .succeeds) (h1 : s.resetAfter ≠ some 1) :
    Ran i s (s.finish 2
      [(s.inputAt 1).fate.shows
          (s.seen 2 (.wr16 0x01 (swap16 (modify (s.moved 0 s.sensor).config)) true))
          (s.seen 2 (.wr16 0x01 (swap16 (modify (s.moved 0 s.sensor).config)) false)),
        s.seen 1 (.rd16 0x01 (some (swap16 (s.moved 0 s.sensor).config)))]
      ((s.inputAt 1).fate.afterWrite (s.moved 1 (s.moved 0 s.sensor))
        ((s.moved 1 (s.moved 0 s.sensor)).storeWord s.platform.sensorWrite .config
          (modify (s.moved 0 s.sensor).config)))
      (s.answer 2 ((s.inputAt 1).fate.answers 0x01 (.ok 0))))

/-- An answer in the check phase, field by field. -/
theorem respond_startCheck (r : Response) (s : State) :
    respond r (startCheck s) = s.finish 0 [] s.sensor (some r) := by
  simp [respond, startCheck, State.finish]

/-- An error in the check phase, field by field. -/
theorem raise_startCheck (kind : CommandError) (s : State) :
    raise kind (startCheck s) = s.finish 0 [] s.sensor (some (.error kind)) :=
  respond_startCheck _ s

/-- A reset in the check phase, field by field. -/
theorem abandon_startCheck (s : State) : abandon (startCheck s) = s.finish 0 [] s.sensor none := by
  simp [abandon, startCheck, State.finish]

/-- Two states with the same fields are the same state. -/
theorem State.ext_fields {s t : State} (hp : s.platform = t.platform) (hb : s.block = t.block)
    (ha : s.resetAfter = t.resetAfter) (hx : s.sensor = t.sensor) (hs : s.bus.script = t.bus.script)
    (hi : s.bus.issued = t.bus.issued) (ht : s.bus.trace = t.bus.trace) (hu : s.turns = t.turns)
    (hr : s.responses = t.responses) : s = t := by
  obtain ⟨p, b, a, x, ⟨sc, is, tr⟩, u, r⟩ := s
  obtain ⟨p', b', a', x', ⟨sc', is', tr'⟩, u', r'⟩ := t
  simp_all

/-- The check phase ends in a reset, or the command runs on from it. -/
theorem checkPhase_ran {i : Instr} {s : State} {k : State → State}
    (goes : s.resetAfter ≠ some 0 → Ran i s (k (startCheck s))) : Ran i s (checkPhase k s) :=
  checkPhase_spec (Ran i s) k s goes fun h => abandon_startCheck s ▸ Ran.abandoned h

/-- A read-modify-write in the check phase's state. -/
theorem rmwConfig_ran {i : Instr} {s : State} {modify : Word → Word} (hr : s.resetAfter ≠ some 0)
    (hm : modifyOf i = some modify) (h : checkError i = none) : Ran i s (rmwConfig modify (startCheck s)) := by
  apply memReadWord_spec (Ran i s)
  · intro h0
    replace h0 : (s.inputAt 0).fate = .succeeds := h0
    refine endPhase_spec (Ran i s) _ _ (fun h1 => ?_) (fun h1 => ?_)
    · have hq := Ran.modifySecond (s := s) hr modify hm h h0 (by simpa using h1)
      apply memWriteWord_spec (Ran i s) <;> intros <;> rename_i h2 <;>
        (simp only [inputAt_startCheck, inputAt_enterPhase, State.inputAt_record, State.inputAt_arrive,
           inputAt_latch] at h2
         simp only [h2] at hq
         try rw [endPhase_raise]
         rw [endPhase_respond]
         refine Eq.mp ?_ hq
         congr 1
         apply State.ext_fields <;> simp [State.finish, Fate.shows, Fate.afterWrite, Fate.answers, State.answer,
           State.seen, State.sensorAtNext, WordReg.pointer, Sensor.word])
    · replace h1 : s.resetAfter = some 1 := by simpa using h1
      have hq := Ran.modifyFirst (s := s) hr modify hm h (.inr h1)
      simp only [h0] at hq
      refine Eq.mp ?_ hq
      congr 1
      apply State.ext_fields <;> simp [State.finish, Fate.shows, Fate.afterRead, State.answer, State.seen,
        State.sensorAtNext, WordReg.pointer, Sensor.word, h1]
  all_goals
    intros
    rename_i h0
    replace h0 : (s.inputAt 0).fate = _ := h0
    have hq := Ran.modifyFirst (s := s) hr modify hm h (.inl (by simp [h0]))
    simp only [h0] at hq
    rw [endPhase_raise, endPhase_respond]
    refine Eq.mp ?_ hq
    congr 1
    apply State.ext_fields <;> simp [State.finish, Fate.shows, Fate.afterRead, State.answer, State.seen,
      State.sensorAtNext, WordReg.pointer]

/-- RDTEMP in the check phase's state. -/
theorem execRdtemp_ran {s : State} (hr : s.resetAfter ≠ some 0) :
    Ran .rdtemp s (memReadWord .tambient (fun w => respond (.ok (dectData (w &&& 0x1FFF)))) (startCheck s)) := by
  have hq := Ran.temperature (i := .rdtemp) hr rfl
  apply memReadWord_spec (Ran .rdtemp s) <;> intros <;> rename_i h0 <;>
    (simp only [inputAt_startCheck] at h0
     simp only [h0] at hq
     try rw [endPhase_raise]
     rw [endPhase_respond]
     refine Eq.mp ?_ hq
     congr 1
     apply State.ext_fields <;> simp [State.finish, Fate.shows, Fate.afterRead, Fate.answers, State.answer, State.seen,
       State.sensorAtNext, WordReg.pointer, Sensor.word])

/-- SETTHR after its checks. -/
theorem execSetthr_ran {s : State} (hr : s.resetAfter ≠ some 0) (which : Sel) (v : Tval)
    (h : checkError (.setthr which v) = none) :
    Ran (.setthr which v) s (memWriteWord (thresholdReg which) (enctWord v) (respond (.ok 0)) (startCheck s)) := by
  have hq := Ran.threshold (i := .setthr which v) hr which v rfl h
  apply memWriteWord_spec (Ran (.setthr which v) s) <;> intros <;> rename_i h0 <;>
    (simp only [inputAt_startCheck] at h0
     simp only [h0] at hq
     try rw [endPhase_raise]
     rw [endPhase_respond]
     refine Eq.mp ?_ hq
     congr 1
     apply State.ext_fields <;> simp [State.finish, Fate.shows, Fate.afterWrite, Fate.answers, State.answer, State.seen,
       State.sensorAtNext])

/-- SETRES after its check. -/
theorem execSetres_ran {s : State} (hr : s.resetAfter ≠ some 0) (code : Sel) (h : checkError (.setres code) = none) :
    Ran (.setres code) s
      (memWriteByte ((code.extractLsb' 0 2).setWidth 8) (respond (.ok 0)) (startCheck s)) := by
  have hq := Ran.resolution (i := .setres code) hr code rfl h
  apply memWriteByte_spec (Ran (.setres code) s) <;> intros <;> rename_i h0 <;>
    (simp only [inputAt_startCheck] at h0
     simp only [h0] at hq
     try rw [endPhase_raise]
     rw [endPhase_respond]
     refine Eq.mp ?_ hq
     congr 1
     apply State.ext_fields <;> simp [State.finish, Fate.shows, Fate.afterWrite, Fate.answers, State.answer, State.seen,
       State.sensorAtNext, resolutionPointer])

/-- GETALRT in the check phase's state. -/
theorem execGetalrt_ran {s : State} (hr : s.resetAfter ≠ some 0) :
    Ran .getalrt s (memReadWord .tambient
      (fun ta s1 => memReadWord .config
        (fun cfg => respond (.ok (alertData (cmpFlags ta) (alertActive cfg)))) (latch ta s1)) (startCheck s)) := by
  apply memReadWord_spec (Ran .getalrt s)
  · intro h0
    replace h0 : (s.inputAt 0).fate = .succeeds := h0
    refine endPhase_spec (Ran .getalrt s) _ _ (fun h1 => ?_) (fun h1 => ?_)
    · have hq := Ran.alertSecond (i := .getalrt) (s := s) hr rfl h0 (by simpa using h1)
      apply memReadWord_spec (Ran .getalrt s) <;> intros <;> rename_i h2 <;>
        (simp only [inputAt_startCheck, inputAt_enterPhase, State.inputAt_record, State.inputAt_arrive,
           inputAt_latch] at h2
         simp only [h2] at hq
         try rw [endPhase_raise]
         rw [endPhase_respond]
         refine Eq.mp ?_ hq
         congr 1
         apply State.ext_fields <;> simp [State.finish, Fate.shows, Fate.afterRead, Fate.answers, State.answer,
           State.seen, State.sensorAtNext, WordReg.pointer, Sensor.word])
    · replace h1 : s.resetAfter = some 1 := by simpa using h1
      have hq := Ran.alertFirst (i := .getalrt) (s := s) hr rfl (.inr h1)
      simp only [h0] at hq
      refine Eq.mp ?_ hq
      congr 1
      apply State.ext_fields <;> simp [State.finish, Fate.shows, Fate.afterRead, State.answer, State.seen,
        State.sensorAtNext, WordReg.pointer, Sensor.word, h1]
  all_goals
    intros
    rename_i h0
    replace h0 : (s.inputAt 0).fate = _ := h0
    have hq := Ran.alertFirst (i := .getalrt) (s := s) hr rfl (.inl (by simp [h0]))
    simp only [h0] at hq
    rw [endPhase_raise, endPhase_respond]
    refine Eq.mp ?_ hq
    congr 1
    apply State.ext_fields <;> simp [State.finish, Fate.shows, Fate.afterRead, State.answer, State.seen,
      State.sensorAtNext, WordReg.pointer]

/-- Every command answers a next state, and this is all it can be. -/
theorem exec_ran (i : Instr) (s : State) : ∃ t, exec i s = .next t ∧ Ran i s t := by
  cases i with
  | dect raw13 => exact ⟨_, rfl, checkPhase_ran fun hr => respond_startCheck _ s ▸ Ran.codec hr _ rfl rfl⟩
  | enct t =>
    refine ⟨_, rfl, checkPhase_ran fun hr => checkRange_spec (Ran _ s) _ _ _ (fun h => ?_) (fun h => ?_)⟩
    · exact respond_startCheck _ s ▸ Ran.codec hr _ (by simp [checkError, h]) rfl
    · exact raise_startCheck _ s ▸ Ran.refused hr _ (by simp [checkError, h])
  | packf current mask shift value =>
    exact ⟨_, rfl, checkPhase_ran fun hr => respond_startCheck _ s ▸ Ran.codec hr _ rfl rfl⟩
  | self word mask shift =>
    exact ⟨_, rfl, checkPhase_ran fun hr => respond_startCheck _ s ▸ Ran.codec hr _ rfl rfl⟩
  | rdtemp => exact ⟨_, rfl, checkPhase_ran fun hr => execRdtemp_ran hr⟩
  | setthr which v =>
    refine ⟨_, rfl, checkPhase_ran fun hr => checkSel_spec (Ran _ s) _ _ _ _ (fun hw => ?_) (fun hw => ?_)⟩
    · refine checkRange_spec (Ran _ s) _ _ _ (fun h => ?_) (fun h => ?_)
      · exact execSetthr_ran hr which v (by simp [checkError, hw, h])
      · exact raise_startCheck _ s ▸ Ran.refused hr _ (by simp [checkError, hw, h])
    · exact raise_startCheck _ s ▸ Ran.refused hr _ (by simp [checkError, hw])
  | setres code =>
    refine ⟨_, rfl, checkPhase_ran fun hr => checkSel_spec (Ran _ s) _ _ _ _ (fun hw => ?_) (fun hw => ?_)⟩
    · exact execSetres_ran hr code (by simp [checkError, hw])
    · exact raise_startCheck _ s ▸ Ran.refused hr _ (by simp [checkError, hw])
  | sethyst code =>
    refine ⟨_, rfl, checkPhase_ran fun hr => checkSel_spec (Ran _ s) _ _ _ _ (fun hw => ?_) (fun hw => ?_)⟩
    · exact rmwConfig_ran hr rfl (by simp [checkError, hw])
    · exact raise_startCheck _ s ▸ Ran.refused hr _ (by simp [checkError, hw])
  | setshdn flag =>
    refine ⟨_, rfl, checkPhase_ran fun hr => checkSel_spec (Ran _ s) _ _ _ _ (fun hw => ?_) (fun hw => ?_)⟩
    · exact rmwConfig_ran hr rfl (by simp [checkError, hw])
    · exact raise_startCheck _ s ▸ Ran.refused hr _ (by simp [checkError, hw])
  | setclk flag =>
    refine ⟨_, rfl, checkPhase_ran fun hr => checkSel_spec (Ran _ s) _ _ _ _ (fun hw => ?_) (fun hw => ?_)⟩
    · exact rmwConfig_ran hr rfl (by simp [checkError, hw])
    · exact raise_startCheck _ s ▸ Ran.refused hr _ (by simp [checkError, hw])
  | setwlk flag =>
    refine ⟨_, rfl, checkPhase_ran fun hr => checkSel_spec (Ran _ s) _ _ _ _ (fun hw => ?_) (fun hw => ?_)⟩
    · exact rmwConfig_ran hr rfl (by simp [checkError, hw])
    · exact raise_startCheck _ s ▸ Ran.refused hr _ (by simp [checkError, hw])
  | setalrt enabled select polarity mode => exact ⟨_, rfl, checkPhase_ran fun hr => rmwConfig_ran hr rfl rfl⟩
  | getalrt => exact ⟨_, rfl, checkPhase_ran fun hr => execGetalrt_ran hr⟩
  | clrint => exact ⟨_, rfl, checkPhase_ran fun hr => rmwConfig_ran hr rfl rfl⟩
  | reservedE => exact ⟨_, rfl, checkPhase_ran fun hr => raise_startCheck _ s ▸ Ran.refused hr _ rfl⟩
  | reservedF => exact ⟨_, rfl, checkPhase_ran fun hr => raise_startCheck _ s ▸ Ran.refused hr _ rfl⟩

/-- The inversion form: what is known of a command that answered `t`. -/
theorem ran_of_exec {i : Instr} {s t : State} (h : exec i s = .next t) : Ran i s t := by
  obtain ⟨u, hu, hr⟩ := exec_ran i s
  rw [h] at hu
  cases hu
  exact hr

end Sys2Proof.Machine
end

