-- ==== Sys2Proof/Laws/PerInstr.lean ====
section
/-! SUPPORT. Statements about every command as syntax, one lemma per constructor. -/

namespace Sys2Proof.Laws

/-- The opcode of a word assembled from its fields. -/
theorem op_assembleFields (op : BitVec 4) (sel : Sel) (c b a : Word) : (assembleFields op sel c b a).op = op := by
  apply BitVec.eq_of_getLsbD_eq
  intro i hi
  simp only [Command.op, assembleFields, BitVec.getLsbD_append, BitVec.getLsbD_extractLsb']
  have h1 : ¬ 52 + i < 16 := by omega
  have h2 : ¬ 52 + i - 16 < 16 := by omega
  have h3 : ¬ 52 + i - 16 - 16 < 16 := by omega
  have h4 : ¬ 52 + i - 16 - 16 - 16 < 4 := by omega
  have h5 : 52 + i - 16 - 16 - 16 - 4 = i := by omega
  simp [h1, h2, h3, h4, h5, hi]

/-- The encoder puts the command's own opcode in bits 55:52 (30_encoding.md R83). -/
def EncodesItsOpcode.Statement (i : Instr) : Prop := (encode i).op = i.opcode

namespace EncodesItsOpcode

theorem dect (raw13 : Word) : Statement (.dect raw13) := op_assembleFields ..
theorem enct (t : Tval) : Statement (.enct t) := op_assembleFields ..
theorem packf (current mask : Word) (shift : Sel) (value : Word) : Statement (.packf current mask shift value) :=
  op_assembleFields ..
theorem self (word mask : Word) (shift : Sel) : Statement (.self word mask shift) := op_assembleFields ..
theorem rdtemp : Statement .rdtemp := op_assembleFields ..
theorem setthr (which : Sel) (t : Tval) : Statement (.setthr which t) := op_assembleFields ..
theorem setres (code : Sel) : Statement (.setres code) := op_assembleFields ..
theorem sethyst (code : Sel) : Statement (.sethyst code) := op_assembleFields ..
theorem setshdn (flag : Sel) : Statement (.setshdn flag) := op_assembleFields ..
theorem setclk (flag : Sel) : Statement (.setclk flag) := op_assembleFields ..
theorem setwlk (flag : Sel) : Statement (.setwlk flag) := op_assembleFields ..
theorem setalrt (enabled select polarity mode : Bool) : Statement (.setalrt enabled select polarity mode) :=
  op_assembleFields ..
theorem getalrt : Statement .getalrt := op_assembleFields ..
theorem clrint : Statement .clrint := op_assembleFields ..
theorem reservedE : Statement .reservedE := op_assembleFields ..
theorem reservedF : Statement .reservedF := op_assembleFields ..

end EncodesItsOpcode

end Sys2Proof.Laws
end

