-- ==== Sys2Proof/Laws/Step.lean ====
section
/-! SUPPORT. Everything one step can do, said once: `step_cases`, by the turn that comes next. -/

namespace Sys2Proof.Machine

/-- A step that answers a next state: nothing to do, a command that ran, a step of the sensor, another master's access,
a power-on reset of the sensor, or a reset of the block. -/
theorem step_cases {s t : State} (h : step s = .next t) :
    (s.turns = [] ∧ t = s) ∨
    (∃ w r rest, s.turns = .command w r :: rest ∧ s.isIdle = true ∧
      Ran (decode w) (acceptCommand w r s.takeTurn) t) ∨
    (∃ a rest, s.turns = .sensor a :: rest ∧ t = sensorTurn a s.takeTurn) ∨
    (∃ p q rest, s.turns = .access p q :: rest ∧
      ((s.platform.exclusive = true ∧ t = s.takeTurn) ∨
        (s.platform.exclusive = false ∧ ∃ txn, accessTxn p q = .ok txn ∧
          t = s.takeTurn.withSensor (masterTxn s.platform.sensorWrite txn s.sensor)))) ∨
    (∃ drawn rest, s.turns = .powerOnReset drawn :: rest ∧ s.isIdle = true ∧
      t = s.takeTurn.withSensor (powerOnReset drawn)) ∨
    (∃ rest, s.turns = .blockReset :: rest ∧ t = abandon s.takeTurn) := by
  unfold step at h
  split at h
  next hu => cases h; exact .inl ⟨hu, rfl⟩
  next w r rest hu =>
    split at h
    next hi => exact .inr (.inl ⟨w, r, rest, hu, hi, ran_of_exec h⟩)
    next => cases h
  next a rest hu => cases h; exact .inr (.inr (.inl ⟨a, rest, hu, rfl⟩))
  next p q rest hu =>
    refine .inr (.inr (.inr (.inl ⟨p, q, rest, hu, ?_⟩)))
    unfold masterAccess at h
    split at h
    next he => cases h; exact .inl ⟨he, rfl⟩
    next he =>
      split at h
      next txn ht => cases h; exact .inr ⟨by simpa using he, txn, ht, rfl⟩
      next => cases h
  next drawn rest hu =>
    unfold powerOnResetTurn at h
    split at h
    next hi => cases h; exact .inr (.inr (.inr (.inr (.inl ⟨drawn, rest, hu, hi, rfl⟩))))
    next => cases h
  next rest hu => cases h; exact .inr (.inr (.inr (.inr (.inr ⟨rest, hu, rfl⟩))))

end Sys2Proof.Machine
end

