-- ==== Sys2Proof/Tests/Slice0.lean ====
section
/-! SUPPORT. The model's own tests. Expected results are the vectors of spec/95_test_vectors.md, named in each test,
and the encoding of 30_encoding.md; then, for every statement with hypotheses, a state and operands that meet them. -/

open Sys2Proof Sys2Proof.Machine

namespace Sys2Proof.Tests

/-! Decoding: words written out field by field from 30_encoding.md R80 to R83. -/

/-- op 0, operand 0xA190, junk in every ignored field (V-D17's form). -/
theorem test_decode_dect : decode 0x0FFFFFFFFFA190 = .dect 0xA190 := by decide
/-- op 1, t = 0xFFF6C000 over b and a. -/
theorem test_decode_enct : decode 0x1FFFFFFFF6C000 = .enct 0xFFF6C000 := by decide
/-- V-P13: op 2, sel shift 4, c value, b mask, a current. -/
theorem test_decode_packf : decode 0x240ABC0F0000FF = .packf 0x00FF 0x0F00 4 0x0ABC := by decide
/-- V-S1: op 3, sel shift 13, b mask, a word. -/
theorem test_decode_self : decode 0x3D0000E000A190 = .self 0xA190 0xE000 13 := by decide
/-- op 4, junk everywhere else. -/
theorem test_decode_rdtemp : decode 0x4FFFFFFFFFFFFF = .rdtemp := by decide
/-- V-T2: op 5, sel which 1, t over b and a. -/
theorem test_decode_setthr : decode 0x510000FFF6C000 = .setthr 1 0xFFF6C000 := by decide
/-- V-Q1: op 6, sel 3. -/
theorem test_decode_setres : decode 0x63000000000000 = .setres 3 := by decide
/-- V-A1: op 0xB, sel = en 1, selbit 0, pol 0, mode 1. -/
theorem test_decode_setalrt : decode 0xB9000000000000 = .setalrt true false false true := by decide
/-- V-X2: opcode 0xF with junk. -/
theorem test_decode_reserved : decode 0xFFFFFFFFFFFFFF = .reservedF := by decide
/-- A command is 56 bits, whole (R80). -/
theorem test_decode_refuses_57_bits :
    decodeTableWord 57 0x140000000000000 = none ∧
      decodeBits 57 0x140000000000000 = .error .notFiftySixBits := ⟨rfl, rfl⟩
/-- V-S1 as the table numbers it. -/
theorem test_decode_table_word : decodeTableWord 56 0x3D0000E000A190 = some (.self 0xA190 0xE000 13) := by decide

/-! WellFormed refuses an ill-formed command for each of its checks (30_encoding.md R84, R85 b). -/

theorem test_wf_setthr : WellFormed (.setthr 2 0) = true ∧ WellFormed (.setthr 3 0) = false := by decide
theorem test_wf_setres : WellFormed (.setres 3) = true ∧ WellFormed (.setres 4) = false := by decide
theorem test_wf_sethyst : WellFormed (.sethyst 3) = true ∧ WellFormed (.sethyst 4) = false := by decide
theorem test_wf_setshdn : WellFormed (.setshdn 1) = true ∧ WellFormed (.setshdn 2) = false := by decide
theorem test_wf_setclk : WellFormed (.setclk 1) = true ∧ WellFormed (.setclk 2) = false := by decide
theorem test_wf_setwlk : WellFormed (.setwlk 1) = true ∧ WellFormed (.setwlk 2) = false := by decide
theorem test_wf_reserved : WellFormed .reservedE = false ∧ WellFormed .reservedF = false := by decide

/-! One step on a small state. -/

/-- A transaction that succeeds with nobody else about. -/
def okTxn : TxnInput := { before := [], fate := .succeeds }

/-- A transaction that fails; for a write, the sensor kept the old value or took the new one. -/
def failTxn (stored : Bool) : TxnInput := { before := [], fate := .fails stored }

/-- An idle block with these sensor registers and these coming transactions. -/
def idleWith (sensor : Sensor) (script : List TxnInput) : State :=
  { platform := { devAddr := 0x18, busId := 7, exclusive := false, sensorWrite := SensorWrite.default },
    block := Block.idle, resetAfter := none, sensor := sensor,
    bus := { script := script, issued := 0, trace := [] }, turns := [], responses := [] }

/-- A sensor that keeps TLOWER[1:0] and RESOLUTION[7:2] always, and each bit of the resolution code under one lock. -/
def keepingSensor : SensorWrite :=
  { always := { KeptBits.none with tlower := 0x0003, resolution := 0xFC },
    whileWinLock := { KeptBits.none with resolution := 0x01 },
    whileCritLock := { KeptBits.none with resolution := 0x02 } }

/-- The sensor of 70_reset_and_hazards.md R208's general knowledge: the critical lock keeps TCRIT, the window lock keeps
TUPPER and TLOWER, either keeps the hysteresis. -/
def lockingSensor : SensorWrite :=
  { always := KeptBits.none,
    whileWinLock := { KeptBits.none with config := 0x0600, tupper := 0xFFFF, tlower := 0xFFFF },
    whileCritLock := { KeptBits.none with config := 0x0600, tcrit := 0xFFFF } }

/-- The same state with a stricter sensor. -/
def locking (s : State) : State := { s with platform := { s.platform with sensorWrite := lockingSensor } }

/-- The same state with a reset of the block due after a phase of the command. -/
def resetting (k : Nat) (s : State) : State := { s with resetAfter := some k }

/-- A sensor with these contents of CONFIG and TAMBIENT; the rest as a test can tell apart. -/
def sensorWith (config tambient : Word) : Sensor :=
  { config := config, tupper := 0x0190, tlower := 0x0101, tcrit := 0xFFFF, tambient := tambient, resolution := 0xFF }

/-- What a presented command word leaves: the sensor, the transactions newest first, the responses. -/
def ran (w : Nat) (s : State) : Option (Sensor × List BusOp × List Response) :=
  match step (s.withFetchWord 56 w) with
  | .next t => some (t.sensor, t.bus.trace.map BusRecord.op, t.responses)
  | .fault _ => none
  | .refused _ => none

/-- What a codec command answers. -/
def answered (w : Nat) : Option (List Response) := (ran w (idleWith (sensorWith 0 0) [])).map (fun x => x.2.2)

/-- V-D17. -/
theorem test_dect_junk : answered 0x0FFFFFFFFF0190 = some [.ok 0x00190000] := by decide
/-- V-D7. -/
theorem test_dect_smallest : answered 0x00000000001000 = some [.ok 0xFF000000] := by decide
/-- V-E10. -/
theorem test_enct_truncates : answered 0x100000FFE6028F = some [.ok 0x00001E61] := by decide
/-- V-E22. -/
theorem test_enct_range : answered 0x10000000FFFD71 = some [.error (.rangeError 0x00FFFD71)] := by decide
/-- V-P14. -/
theorem test_packf_nothing_lands : answered 0x2F000100F05555 = some [.ok 0x00005505] := by decide
/-- V-P5. -/
theorem test_packf_masks_value : answered 0x29000706000000 = some [.ok 0x00000600] := by decide
/-- V-S1. -/
theorem test_self_flags : answered 0x3D0000E000A190 = some [.ok 0x00000005] := by decide
/-- V-S5. -/
theorem test_self_shift_zero : answered 0x3000000600FFFF = some [.ok 0x00000600] := by decide

/-- V-R1, with the raw word on the bus. -/
theorem test_rdtemp : ran 0x40000000000000 (idleWith (sensorWith 0 0xA190) [okTxn]) =
    some (sensorWith 0 0xA190, [.rd16 0x05 (some 0x90A1)], [.ok 0x00190000]) := by decide
/-- V-R4. -/
theorem test_rdtemp_fails : ran 0x40000000000000 (idleWith (sensorWith 0 0xA190) [failTxn false]) =
    some (sensorWith 0 0xA190, [.rd16 0x05 none], [.error (.transportError 0x05)]) := by decide
/-- V-T3. -/
theorem test_setthr : ran 0x52000000558000 (idleWith (sensorWith 0 0) [okTxn]) =
    some ({ sensorWith 0 0 with tcrit := 0x0558 }, [.wr16 0x04 0x5805 true], [.ok 0]) := by decide
/-- V-T7. -/
theorem test_setthr_priority : ran 0x530000012C0000 (idleWith (sensorWith 0 0) []) =
    some (sensorWith 0 0, [], [.error (.invalidConfiguration 3)]) := by decide
/-- V-Q1. -/
theorem test_setres : ran 0x63000000000000 (idleWith (sensorWith 0 0) [okTxn]) =
    some ({ sensorWith 0 0 with resolution := 0x03 }, [.wr8 0x08 0x03 true], [.ok 0]) := by decide
/-- V-Q3. -/
theorem test_setres_illegal : ran 0x64000000000000 (idleWith (sensorWith 0 0) []) =
    some (sensorWith 0 0, [], [.error (.invalidConfiguration 4)]) := by decide
/-- V-H2. -/
theorem test_sethyst : ran 0x71000000000000 (idleWith (sensorWith 0xFFFF 0) [okTxn, okTxn]) =
    some (sensorWith 0xFBFF 0, [.wr16 0x01 0xFFFB true, .rd16 0x01 (some 0xFFFF)], [.ok 0]) := by decide
/-- V-H6, the new value stored. -/
theorem test_sethyst_write_fails : ran 0x72000000000000 (idleWith (sensorWith 0x0019 0) [okTxn, failTxn true]) =
    some (sensorWith 0x0419 0, [.wr16 0x01 0x1904 false, .rd16 0x01 (some 0x1900)],
      [.error (.transportError 0x01)]) := by decide
/-- V-N1. -/
theorem test_setshdn : ran 0x80000000000000 (idleWith (sensorWith 0xABCD 0) [okTxn, okTxn]) =
    some (sensorWith 0xAACD 0, [.wr16 0x01 0xCDAA true, .rd16 0x01 (some 0xCDAB)], [.ok 0]) := by decide
/-- V-N3. -/
theorem test_setshdn_illegal : ran 0x82000000000000 (idleWith (sensorWith 0 0) []) =
    some (sensorWith 0 0, [], [.error (.invalidConfiguration 2)]) := by decide
/-- V-L1. -/
theorem test_setclk : ran 0x91000000000000 (idleWith (sensorWith 0x0200 0) [okTxn, okTxn]) =
    some (sensorWith 0x0280 0, [.wr16 0x01 0x8002 true, .rd16 0x01 (some 0x0002)], [.ok 0]) := by decide
/-- V-L2. -/
theorem test_setclk_keeps : ran 0x90000000000000 (idleWith (sensorWith 0x0280 0) [okTxn, okTxn]) =
    some (sensorWith 0x0280 0, [.wr16 0x01 0x8002 true, .rd16 0x01 (some 0x8002)], [.ok 0]) := by decide
/-- V-L3. -/
theorem test_setwlk : ran 0xA1000000000000 (idleWith (sensorWith 0x0280 0) [okTxn, okTxn]) =
    some (sensorWith 0x02C0 0, [.wr16 0x01 0xC002 true, .rd16 0x01 (some 0x8002)], [.ok 0]) := by decide
/-- V-L4. -/
theorem test_setwlk_still_writes : ran 0xA0000000000000 (idleWith (sensorWith 0x0000 0) [okTxn, okTxn]) =
    some (sensorWith 0x0000 0, [.wr16 0x01 0x0000 true, .rd16 0x01 (some 0x0000)], [.ok 0]) := by decide
/-- V-A2. -/
theorem test_setalrt : ran 0xB5000000000000 (idleWith (sensorWith 0x01F0 0) [okTxn, okTxn]) =
    some (sensorWith 0x01F5 0, [.wr16 0x01 0xF501 true, .rd16 0x01 (some 0xF001)], [.ok 0]) := by decide
/-- V-A3. -/
theorem test_setalrt_clears : ran 0xB0000000000000 (idleWith (sensorWith 0xFFFF 0) [okTxn, okTxn]) =
    some (sensorWith 0xFFF0 0, [.wr16 0x01 0xF0FF true, .rd16 0x01 (some 0xFFFF)], [.ok 0]) := by decide
/-- V-G1. -/
theorem test_getalrt : ran 0xC0000000000000 (idleWith (sensorWith 0x0010 0xA190) [okTxn, okTxn]) =
    some (sensorWith 0x0010 0xA190, [.rd16 0x01 (some 0x1000), .rd16 0x05 (some 0x90A1)], [.ok 0x0000000B]) := by decide
/-- V-G5. -/
theorem test_getalrt_second_fails : ran 0xC0000000000000 (idleWith (sensorWith 0x0010 0xA190) [okTxn, failTxn false]) =
    some (sensorWith 0x0010 0xA190, [.rd16 0x01 none, .rd16 0x05 (some 0x90A1)],
      [.error (.transportError 0x01)]) := by decide
/-- V-C1 with its self-clear step: the sensor step after the command (10_state.md R40). -/
theorem test_clrint : ran 0xD0000000000000 (idleWith (sensorWith 0x0209 0) [okTxn, okTxn]) =
    some (sensorWith 0x0229 0, [.wr16 0x01 0x2902 true, .rd16 0x01 (some 0x0902)], [.ok 0]) ∧
    sensorStep .intClrDone (sensorWith 0x0229 0) = sensorWith 0x0209 0 := by decide
/-- V-X1. -/
theorem test_reserved_e : answered 0xE0000000000000 = some [.error .invalidCommand] := by decide
/-- V-X2. -/
theorem test_reserved_f : answered 0xFFFFFFFFFFFFFF = some [.error .invalidCommand] := by decide

/-- R208: the sensor ignores a write of TCRIT while CRIT_LOCK is set and the block answers OK all the same; with no lock
set it takes the write. -/
theorem test_locked_write_is_ignored :
    ran 0x52000000558000 (locking (idleWith (sensorWith 0x0080 0) [okTxn])) =
      some (sensorWith 0x0080 0, [.wr16 0x04 0x5805 true], [.ok 0]) ∧
    ran 0x52000000558000 (locking (idleWith (sensorWith 0 0) [okTxn])) =
      some ({ sensorWith 0 0 with tcrit := 0x0558 }, [.wr16 0x04 0x5805 true], [.ok 0]) := by decide

/-- What a turn with a reset of the block in mid-command leaves. -/
def ranReset (w : Command) (k : Nat) (s : State) : Option (Sensor × List BusOp × List Response) :=
  match step { s with turns := [.command w (some k)] } with
  | .next t => some (t.sensor, t.bus.trace.map BusRecord.op, t.responses)
  | .fault _ => none
  | .refused _ => none

/-- R190: a reset abandons a codec command, a refused command, and a command whose transaction failed; the write that
was done stays done. -/
theorem test_reset_abandons :
    ranReset 0x00000000000190 0 (idleWith (sensorWith 0 0) []) = some (sensorWith 0 0, [], []) ∧
    ranReset 0xE0000000000000 0 (idleWith (sensorWith 0 0) []) = some (sensorWith 0 0, [], []) ∧
    ranReset 0x63000000000000 1 (idleWith (sensorWith 0 0) [failTxn true]) =
      some ({ sensorWith 0 0 with resolution := 0x03 }, [.wr8 0x08 0x03 false], []) ∧
    ranReset 0x71000000000000 1 (idleWith (sensorWith 0 0) [okTxn, okTxn]) =
      some (sensorWith 0 0, [.rd16 0x01 (some 0)], []) := by decide

/-! For every statement with hypotheses, operands and a state that meet them, one per clause. -/

/-- A state the witnesses share: every coming transaction succeeds. -/
def bothSucceed : State := idleWith (sensorWith 0x0280 0xA190) [okTxn, okTxn, okTxn, okTxn]

theorem witness_DecoderReadsOnlyListedFields :
    (0x00000000000190 : Command) &&& readBits ((0x00000000000190 : Command).extractLsb' 52 4) =
      (0x0FFFFFFFFF0190 : Command) &&& readBits ((0x00000000000190 : Command).extractLsb' 52 4) := by decide
theorem witness_ReservedOpcodesAnswerInvalidCommand :
    bothSucceed.NoResetThrough 0 ∧ (0xE0000000000000 : Command).extractLsb' 52 4 = 0xE ∧
      (0xFFFFFFFFFFFFFF : Command).extractLsb' 52 4 = 0xF ∧
      ((0xDFFFFFFFFFFFFF : Command).extractLsb' 52 4).toNat ≤ 0xD := by decide
theorem witness_FunctionNamesExpandToLegalCommands :
    FunctionCall.expand (.setThreshold .critical 0) = some (.setthr 2 0) := by decide
theorem test_function_names :
    FunctionCall.expand (.setResolution 0x1000) = some (.setres 3) ∧
      FunctionCall.expand (.setHysteresis 0) = some (.sethyst 0) ∧
      FunctionCall.expand (.setHysteresis 0x60000) = some (.sethyst 3) ∧
      FunctionCall.expand (.setResolution 0x2001) = none ∧ FunctionCall.expand (.setHysteresis 0xC0000) = none := by
  decide
theorem witness_DectIsSignExtension : bothSucceed.NoResetThrough 0 := by decide
theorem witness_EnctTruncatesTowardZero :
    -16777216 ≤ (0xFF000000 : Tval).toInt ∧ (0xFF000000 : Tval).toInt ≤ 16773120 ∧
      -16777216 ≤ (0x00FFF000 : Tval).toInt ∧ (0x00FFF000 : Tval).toInt ≤ 16773120 ∧
      bothSucceed.NoResetThrough 0 := by decide
theorem witness_RangeErrorExactlyOutsideTheBounds :
    (2 : Sel).toNat ≤ 2 ∧ bothSucceed.NoResetThrough 0 ∧
      ((0x00FFF001 : Tval).toInt < -16777216 ∨ 16773120 < (0x00FFF001 : Tval).toInt) ∧
      ((0xFEFFFFFF : Tval).toInt < -16777216 ∨ 16773120 < (0xFEFFFFFF : Tval).toInt) ∧
      ¬((0x00FFF000 : Tval).toInt < -16777216 ∨ 16773120 < (0x00FFF000 : Tval).toInt) ∧
      ¬((0xFF000000 : Tval).toInt < -16777216 ∨ 16773120 < (0xFF000000 : Tval).toInt) := by decide
theorem witness_TemperatureRoundTrips :
    ((-4096 : Int) ≤ -4096 ∧ (-4096 : Int) ≤ 4095) ∧ ((-4096 : Int) ≤ 4095 ∧ (4095 : Int) ≤ 4095) ∧
      (0x1FFF : Word).toNat < 8192 ∧ outOfRange 0xFFE6028F = false ∧ outOfRange 0xFF000000 = false := by decide
theorem witness_PackfReplacesTheMaskedBits : (15 : Nat) < 16 ∧ bothSucceed.NoResetThrough 0 := by decide
theorem witness_SelfSelectsAndShifts : bothSucceed.NoResetThrough 0 := by decide
theorem witness_PackFieldLaws : (0x0600 : Word) &&& 0x000F = 0 := by decide
theorem witness_PackAndSelectAreInverse :
    (1 ≤ 1 ∧ (15 : Sel).toNat + 1 ≤ 16 ∧ (0x8000 : Word).toNat = (2 ^ 1 - 1) * 2 ^ (15 : Sel).toNat ∧
      (1 : Word).toNat < 2 ^ 1) ∧
    (1 ≤ 16 ∧ (0 : Sel).toNat + 16 ≤ 16 ∧ (0xFFFF : Word).toNat = (2 ^ 16 - 1) * 2 ^ (0 : Sel).toNat ∧
      (0xFFFF : Word).toNat < 2 ^ 16) ∧ tHystField ∈ configFields ++ tambientFields := by decide
theorem witness_CodecCommandsDependOnTheWordAlone : (Instr.self 0 0 0).opcode.toNat ≤ 3 ∧
    bothSucceed.NoResetThrough 0 := by decide
/-- The default sensor, a stricter one with no lock set, and each way a bit is kept. -/
theorem witness_SensorWriteBits :
    (15 : Nat) < 16 ∧ (sensorWith 0x00C0 0).TakesWrites SensorWrite.default ∧
      (sensorWith 0 0).TakesWrites lockingSensor ∧
      lockingSensor.Keeps (sensorWith 0x0040 0) (fun kept => (kept.word .tupper).getLsbD 15) ∧
      lockingSensor.Keeps (sensorWith 0x0080 0) (fun kept => (kept.word .tcrit).getLsbD 0) ∧
      keepingSensor.Keeps (sensorWith 0 0) (fun kept => (kept.word .tlower).getLsbD 1) ∧
      keepingSensor.Keeps (sensorWith 0 0) (fun kept => kept.resolution.getLsbD 7) ∧
      keepingSensor.Keeps (sensorWith 0x0040 0) (fun kept => kept.resolution.getLsbD 0) ∧
      keepingSensor.Keeps (sensorWith 0x0080 0) (fun kept => kept.resolution.getLsbD 1) ∧
      ¬ keepingSensor.Keeps (sensorWith 0 0) (fun kept => kept.resolution.getLsbD 0) ∧
      ¬ lockingSensor.Keeps (sensorWith 0x00C0 0) (fun kept => kept.config.getLsbD 15) ∧
      ¬ lockingSensor.Keeps (sensorWith 0x0080 0) (fun kept => (kept.word .tupper).getLsbD 15) ∧
      WordReg.tupper ≠ WordReg.config := by decide
theorem witness_ReadsReturnAndChangeNothing : bothSucceed.Succeeds 0 := by decide
theorem witness_RawWordsAreByteSwapped : bothSucceed.Succeeds 0 ∧ (7 : Nat) < 8 ∧
    (rawReadWord .tambient bothSucceed).1 = .value 0x90A1 := by decide
theorem witness_NormalizedAccessesActOnTheRegister :
    bothSucceed.Succeeds 0 ∧ bothSucceed.resetAfter ≠ some (bothSucceed.block.phase + 1) ∧
      WordReg.tupper ≠ WordReg.config := by decide
theorem witness_FailedTransactionsLeaveOldOrNew :
    (idleWith (sensorWith 0 0) [failTxn true]).Fails 0 true ∧
      (idleWith (sensorWith 0 0) [failTxn false]).Fails 0 false := by decide
theorem witness_RdtempAnswersTheTemperature :
    bothSucceed.NoResetThrough 1 ∧ bothSucceed.Succeeds 0 ∧
      (idleWith (sensorWith 0 0) [failTxn false]).Fails 0 false := by decide
theorem witness_SetthrWritesTheThreshold :
    ((0 : Sel).toNat ≤ 2 ∧ -16777216 ≤ (0xFF000000 : Tval).toInt ∧ (0xFF000000 : Tval).toInt ≤ 16773120) ∧
      ((2 : Sel).toNat ≤ 2 ∧ -16777216 ≤ (0x00FFF000 : Tval).toInt ∧ (0x00FFF000 : Tval).toInt ≤ 16773120) ∧
      bothSucceed.NoResetThrough 1 ∧ bothSucceed.Succeeds 0 ∧
      (bothSucceed.moved 0 bothSucceed.sensor).TakesWrites bothSucceed.platform.sensorWrite := by decide
theorem witness_SetthrErrorsInOrder :
    3 ≤ (3 : Sel).toNat ∧ ((2 : Sel).toNat ≤ 2 ∧ 16773120 < (0x00FFF001 : Tval).toInt) ∧
      ((2 : Sel).toNat ≤ 2 ∧ -16777216 ≤ (0xFF000000 : Tval).toInt ∧ (0xFF000000 : Tval).toInt ≤ 16773120 ∧
        (idleWith (sensorWith 0 0) [failTxn true]).NoResetThrough 1 ∧
        (idleWith (sensorWith 0 0) [failTxn true]).Fails 0 true) := by decide
theorem witness_SetresWritesTheWholeByte :
    ((3 : Sel).toNat ≤ 3 ∧ bothSucceed.NoResetThrough 1 ∧ bothSucceed.Succeeds 0 ∧
      (bothSucceed.moved 0 bothSucceed.sensor).TakesWrites bothSucceed.platform.sensorWrite) ∧ 3 < (4 : Sel).toNat ∧
      ((3 : Sel).toNat ≤ 3 ∧ (idleWith (sensorWith 0 0) [failTxn true]).Fails 0 true) := by decide
/-- The three clauses of every read-modify-write, and of GETALRT. -/
theorem witness_RunsReadModifyWrite :
    (bothSucceed.NoResetThrough 2 ∧ bothSucceed.Succeeds 0 ∧ bothSucceed.Succeeds 1) ∧
      (idleWith (sensorWith 0 0) [failTxn false]).Fails 0 false ∧
      ((idleWith (sensorWith 0 0) [okTxn, failTxn true]).Succeeds 0 ∧
        (idleWith (sensorWith 0 0) [okTxn, failTxn true]).Fails 1 true) := by decide
theorem witness_SethystReplacesTheHysteresis : (3 : Sel).toNat ≤ 3 ∧ 3 < (4 : Sel).toNat ∧
    bothSucceed.NoResetThrough 0 := by decide
theorem witness_SetshdnReplacesTheShutdownBit : (1 : Sel).toNat ≤ 1 ∧ 1 < (2 : Sel).toNat ∧
    bothSucceed.NoResetThrough 0 := by decide
theorem witness_SetclkOnlySetsTheCriticalLock : (1 : Sel).toNat ≤ 1 ∧ 1 < (2 : Sel).toNat ∧
    bothSucceed.NoResetThrough 0 := by decide
theorem witness_SetwlkOnlySetsTheWindowLock : (0 : Sel).toNat ≤ 1 ∧ 1 < (15 : Sel).toNat ∧
    bothSucceed.NoResetThrough 0 := by decide
theorem witness_GetalrtAnswersFlagsAndActive :
    (bothSucceed.NoResetThrough 2 ∧ bothSucceed.Succeeds 0 ∧ bothSucceed.Succeeds 1) ∧
      (idleWith (sensorWith 0 0) [failTxn false]).Fails 0 false ∧
      ((idleWith (sensorWith 0 0) [okTxn, failTxn false]).Succeeds 0 ∧
        (idleWith (sensorWith 0 0) [okTxn, failTxn false]).Fails 1 false) := by decide
theorem witness_ReadModifyWritePreservesOtherBits :
    IsReadModifyWrite (.sethyst 3) = true ∧ IsReadModifyWrite (.setwlk 1) = true ∧
      IsReadModifyWrite .clrint = true := by decide
theorem witness_ReadModifyWriteIsIdempotent :
    (IsReadModifyWrite (.setwlk 1) = true ∧ bothSucceed.NoResetThrough 2 ∧
      bothSucceed.sensor.TakesWrites bothSucceed.platform.sensorWrite ∧ bothSucceed.Quiet 0 ∧
      bothSucceed.Quiet 1 ∧ bothSucceed.Succeeds 0 ∧
      bothSucceed.Succeeds 1) ∧
    ∃ t, exec (.setwlk 1) bothSucceed = .next t ∧ t.Quiet 0 ∧ t.Quiet 1 ∧ t.Succeeds 0 ∧ t.Succeeds 1 :=
  ⟨by decide, _, rfl, rfl, rfl, rfl, rfl⟩
theorem witness_NoCommandClearsALockItRead :
    ∃ t, exec (.setclk 0) bothSucceed = .next t ∧ ∃ r raw older, t.bus.trace = [] ++ r :: older ∧
      r.op = .wr16 0x01 raw true ∧ (swap16 raw).getLsbD 7 = true :=
  ⟨_, rfl, _, _, _, rfl, rfl, rfl⟩

/-- Two commands and a sensor step to come, no power-on reset among them. -/
def threeTurns : State :=
  { idleWith (sensorWith 0x00C0 0) [okTxn, okTxn, failTxn true, okTxn, okTxn, okTxn] with
    turns := [.command 0x90000000000000 none, .sensor (.measure 0xE000), .command 0x63000000000000 (some 1)] }

theorem witness_LocksStaySetWithoutPowerOnReset :
    threeTurns.NoPowerOnReset 3 ∧ (∃ t, core.run 3 threeTurns = .next t) ∧ threeTurns.sensor.winLock = true ∧
      threeTurns.sensor.critLock = true := by
  refine ⟨⟨?_, by decide⟩, ⟨_, rfl⟩, rfl, rfl⟩
  intro k hk turn h
  obtain rfl | rfl | rfl : k = 0 ∨ k = 1 ∨ k = 2 := by omega
  all_goals cases h; rfl

theorem witness_IllFormedCommandsAreRefusedUntouched :
    WellFormed (.setthr 3 0) = false ∧ bothSucceed.NoResetThrough 0 ∧ WellFormed (.setthr 2 0) = true := by decide
/-- One command for each kind of error. -/
theorem witness_TheFirstErrorInOrderIsReported :
    (∃ t, exec .reservedE bothSucceed = .next t ∧ t.responses = .error .invalidCommand :: bothSucceed.responses) ∧
    (∃ t, exec (.setres 4) bothSucceed = .next t ∧
      t.responses = .error (.invalidConfiguration 4) :: bothSucceed.responses) ∧
    (∃ t, exec (.setthr 2 0x00FFF001) bothSucceed = .next t ∧
      t.responses = .error (.rangeError 0x00FFF001) :: bothSucceed.responses) ∧
    (∃ t, exec .clrint (idleWith (sensorWith 0 0) [okTxn, failTxn true]) = .next t ∧
      t.responses = .error (.transportError 0x01) :: []) :=
  ⟨⟨_, rfl, rfl⟩, ⟨_, rfl, rfl⟩, ⟨_, rfl, rfl⟩, ⟨_, rfl, rfl⟩⟩
theorem witness_ErrorsLeaveNothingBehind :
    (∃ t, exec (.setthr 2 0x00FFF001) bothSucceed = .next t ∧
      t.responses = .error (.rangeError 0x00FFF001) :: bothSucceed.responses) ∧
    ∀ p, CommandError.rangeError 0x00FFF001 ≠ .transportError p :=
  ⟨⟨_, rfl, rfl⟩, fun _ h => nomatch h⟩
/-- A failed write whose data the sensor took: as the second transaction, as SETTHR's and as SETRES's. -/
theorem witness_NoCommandIsPartlyApplied :
    (∃ t, exec (.sethyst 2) (idleWith (sensorWith 0x0019 0) [okTxn, failTxn true]) = .next t ∧
      t.responses = .error (.transportError 0x01) :: [] ∧
      ((idleWith (sensorWith 0x0019 0) [okTxn, failTxn true]).inputAt 0).fate.isPowerOnReset = false ∧
      ((idleWith (sensorWith 0x0019 0) [okTxn, failTxn true]).inputAt 1).fate.isPowerOnReset = false) ∧
    (∃ t, exec (.setthr 2 0) (idleWith (sensorWith 0 0) [failTxn true]) = .next t ∧
      t.responses = .error (.transportError 0x04) :: []) ∧
    (∃ t, exec (.setres 3) (idleWith (sensorWith 0 0) [failTxn true]) = .next t ∧
      t.responses = .error (.transportError 0x08) :: []) :=
  ⟨⟨_, rfl, rfl, rfl, rfl⟩, ⟨_, rfl, rfl⟩, _, rfl, rfl⟩
theorem witness_CommandsWriteOnlyTheirRegister :
    (bothSucceed.Quiet 0 ∧ bothSucceed.Quiet 1 ∧ (bothSucceed.inputAt 0).fate.isPowerOnReset = false ∧
      (bothSucceed.inputAt 1).fate.isPowerOnReset = false ∧ ∃ t, exec (.setthr 2 0) bothSucceed = .next t) ∧
    mayWriteWord (.setthr 2 0) .tlower = false ∧ mayWriteWord (.setthr 2 0) .tcrit = true ∧
      mayWriteResolution (.setthr 2 0) = false :=
  ⟨⟨rfl, rfl, rfl, rfl, _, rfl⟩, rfl, rfl, rfl⟩
theorem witness_LostUpdateBetweenMasters :
    (3 : Sel).toNat ≤ 3 ∧ (idleWith (sensorWith 0 0)
        [okTxn, { before := [.master (.writeWord .config 0xFFFF)], fate := .succeeds }]).NoResetThrough 2 ∧
      (idleWith (sensorWith 0 0)
        [okTxn, { before := [.master (.writeWord .config 0xFFFF)], fate := .succeeds }]).bus.script =
      { before := [], fate := .succeeds } ::
        { before := [.master (.writeWord .config 0xFFFF)], fate := .succeeds } :: [] ∧
      bothSucceed.platform.sensorWrite = SensorWrite.default := by decide
theorem witness_PowerOnResetClearsTheLocks :
    ({ bothSucceed with turns := [.powerOnReset (sensorWith 0xFFFF 0)] } : State).Idle ∧
      ({ bothSucceed with turns := [.powerOnReset (sensorWith 0xFFFF 0)] } : State).turns =
        .powerOnReset (sensorWith 0xFFFF 0) :: [] := by decide

/-- SETTHR at its bounds passes the check phase. -/
theorem passesChecks_setthr : PassesChecks (.setthr 2 0xFF000000) := by
  simp [PassesChecks, tvalOperand]
/-- SETHYST with the largest code passes the check phase. -/
theorem passesChecks_sethyst : PassesChecks (.sethyst 3) := by
  simp [PassesChecks, tvalOperand]

/-- A power loss of the sensor at a transaction. -/
def lossTxn : TxnInput := { before := [], fate := .powerOnReset (sensorWith 0xFFFF 1) }

theorem witness_PowerLossInACommandIsATransportError :
    (PassesChecks (.setthr 2 0xFF000000) ∧ 0 < transactionCount (.setthr 2 0xFF000000) ∧
      (idleWith (sensorWith 0 0) [lossTxn]).NoResetThrough 1 ∧
      ((idleWith (sensorWith 0 0) [lossTxn]).inputAt 0).fate = .powerOnReset (sensorWith 0xFFFF 1)) ∧
    (PassesChecks (.sethyst 3) ∧ transactionCount (.sethyst 3) = 2 ∧
      (idleWith (sensorWith 0 0) [okTxn, lossTxn]).NoResetThrough 2 ∧
      (idleWith (sensorWith 0 0) [okTxn, lossTxn]).Succeeds 0 ∧
      ((idleWith (sensorWith 0 0) [okTxn, lossTxn]).inputAt 1).fate = .powerOnReset (sensorWith 0xFFFF 1)) :=
  ⟨⟨passesChecks_setthr, by decide, by decide, rfl⟩, passesChecks_sethyst, rfl, by decide, rfl, rfl⟩
/-- A reset meets a codec command in its check phase; a reset after phase 1 comes too late for it. -/
theorem witness_EveryCommandEndsWithOneResponse :
    MeetsReset (.dect 0) (resetting 0 bothSucceed) ∧ MeetsReset (.sethyst 3) (resetting 2 bothSucceed) ∧
      ¬ MeetsReset (.dect 0) (resetting 1 bothSucceed) := by
  refine ⟨.inl rfl, .inr (.inr ⟨passesChecks_sethyst, rfl, rfl, rfl⟩), ?_⟩
  rintro (h | ⟨-, h, -⟩ | ⟨-, h, -⟩)
  · cases h
  · exact absurd h (by decide)
  · cases h
theorem witness_BlockResetAbandonsTheCommand :
    (resetting 0 bothSucceed).resetAfter = some 0 ∧
    ((resetting 1 bothSucceed).resetAfter = some 1 ∧ (resetting 1 bothSucceed).Succeeds 0) ∧
    PassesChecks (.setthr 2 0xFF000000) ∧ (3 : Sel).toNat ≤ 3 ∧ IsReadModifyWrite (.sethyst 3) = true ∧
    ((resetting 2 bothSucceed).resetAfter = some 2 ∧ (resetting 2 bothSucceed).Succeeds 0 ∧
      (resetting 2 bothSucceed).Succeeds 1) :=
  ⟨rfl, ⟨rfl, rfl⟩, passesChecks_setthr, by decide, rfl, rfl, rfl, rfl⟩
/-- The last phase of a codec command, of SETTHR, of a read-modify-write whose read failed, and of one whose read did
not. -/
theorem witness_BlockResetTakesAwayOnlyTheResponse :
    (transactionCount (.dect 0) = 0 ∧ ∃ u, exec (.dect 0) bothSucceed = .next u) ∧
    (PassesChecks (.setthr 2 0xFF000000) ∧ transactionCount (.setthr 2 0xFF000000) = 1) ∧
    (PassesChecks (.sethyst 3) ∧ transactionCount (.sethyst 3) = 2 ∧
      ¬ (resetting 1 (idleWith (sensorWith 0 0) [failTxn true])).Succeeds 0 ∧ (resetting 2 bothSucceed).Succeeds 0) :=
  ⟨⟨rfl, _, rfl⟩, ⟨passesChecks_setthr, rfl⟩, passesChecks_sethyst, rfl, by decide, rfl⟩
/-- The edges of every clause: pointers 1 and 5, 8, and 0, 6, 7, 9, 255; no pointer is in two clauses. -/
theorem witness_MisfitAccessesAreRefused :
    ({ bothSucceed with turns := [.access 0x05 .readByte] } : State).turns = .access 0x05 .readByte :: [] ∧
      bothSucceed.platform.exclusive = false ∧ 1 ≤ (0x01 : Byte).toNat ∧ (0x05 : Byte).toNat ≤ 5 ∧
      ((0x00 : Byte).toNat = 0 ∧ (0x06 : Byte).toNat = 6 ∧ (0x07 : Byte).toNat = 7 ∧ 8 < (0x09 : Byte).toNat ∧
        8 < (0xFF : Byte).toNat) := by decide
theorem test_misfit_accesses :
    accessTxn 0x01 .readByte = .error .widthMismatch ∧ accessTxn 0x05 (.writeByte 1) = .error .widthMismatch ∧
      accessTxn 0x08 .readWord = .error .widthMismatch ∧ accessTxn 0x08 (.writeWord 1) = .error .widthMismatch ∧
      accessTxn 0x00 .readWord = .error .noRegister ∧ accessTxn 0x06 .readWord = .error .noRegister ∧
      accessTxn 0x07 .readByte = .error .noRegister ∧ accessTxn 0x09 .readWord = .error .noRegister ∧
      accessTxn 0x04 (.writeWord 0x5805) = .ok (.writeWord .tcrit 0x0558) :=
  ⟨rfl, rfl, rfl, rfl, rfl, rfl, rfl, rfl, rfl⟩
/-- An idle block with a command next. -/
theorem witness_StepRunsThePresentedCommand : threeTurns.Idle ∧ threeTurns.turns = .command 0x90000000000000 none ::
    [.sensor (.measure 0xE000), .command 0x63000000000000 (some 1)] := by decide
theorem witness_IdleBlockAcceptsEveryWord : threeTurns.Idle ∧ threeTurns.turns = .command 0x90000000000000 none ::
    [.sensor (.measure 0xE000), .command 0x63000000000000 (some 1)] := by decide
theorem witness_BusIdIsNeverRead : ∃ t, step threeTurns = .next t := ⟨_, rfl⟩
theorem witness_EveryStepKeepsTheInvariant : threeTurns.Inv ∧ ∃ t, step threeTurns = .next t :=
  ⟨⟨rfl, rfl, fun _ h => nomatch h⟩, _, rfl⟩
theorem witness_BlockResetLeavesTheSensorAlone :
    ({ bothSucceed with turns := [.blockReset] } : State).turns = .blockReset :: [] := by decide
theorem witness_OtherAgentsActOnTheSensorAlone :
    ({ bothSucceed with turns := [.sensor (.alert true)] } : State).turns = .sensor (.alert true) :: [] ∧
      ({ bothSucceed with turns := [.access WordReg.tambient.pointer .readWord] } : State).turns =
        .access WordReg.tambient.pointer .readWord :: [] ∧
      ({ bothSucceed with turns := [.access 0x08 .readByte] } : State).turns = .access 0x08 .readByte :: [] ∧
      ({ bothSucceed with turns := [.access WordReg.tcrit.pointer (.writeWord 0x5805)] } : State).turns =
        .access WordReg.tcrit.pointer (.writeWord 0x5805) :: [] ∧
      ({ bothSucceed with turns := [.access 0x08 (.writeByte 3)] } : State).turns =
        .access 0x08 (.writeByte 3) :: [] ∧
      bothSucceed.turns = [] := by decide

theorem witness_SensorStepsBetweenTheReadsAreSeen :
    (idleWith (sensorWith 0 0) [{ before := [.sensor (.measure 0xC190)], fate := .succeeds },
      { before := [.sensor (.measure 0x2190), .sensor (.alert true)], fate := .succeeds }]).NoResetThrough 2 ∧
    [AgentStep.sensor (.measure 0x2190), .sensor (.alert true)] =
      [SensorStep.measure 0x2190, .alert true].map .sensor := by decide
/-- 70_reset_and_hazards.md R198: the flags of the first read, the active bit of the second. -/
theorem test_getalrt_is_no_snapshot :
    (ran 0xC0000000000000 (idleWith (sensorWith 0 0) [{ before := [.sensor (.measure 0xC190)], fate := .succeeds },
      { before := [.sensor (.measure 0x2190), .sensor (.alert true)], fate := .succeeds }])).map (fun r => r.2.2) =
      some [.ok 0xD] := by decide
end Sys2Proof.Tests
end

section
/-! BUS_ID is never read (00_scope.md R5). Every operation commutes with changing the bus identifier: the
continuations by `IgnoresBusId`, the raw primitives on the state they hand back, and so a command and a step. -/

namespace Sys2Proof.Machine

/-- The same state under another bus identifier (00_scope.md R5). -/
def State.withBusId (s : State) (b : Nat) : State := { s with platform := { s.platform with busId := b } }

@[simp] theorem State.withBusId_platform_exclusive (s : State) (b : Nat) :
    (s.withBusId b).platform.exclusive = s.platform.exclusive := rfl
@[simp] theorem State.withBusId_platform_sensorWrite (s : State) (b : Nat) :
    (s.withBusId b).platform.sensorWrite = s.platform.sensorWrite := rfl
@[simp] theorem State.withBusId_block (s : State) (b : Nat) : (s.withBusId b).block = s.block := rfl
@[simp] theorem State.withBusId_resetAfter (s : State) (b : Nat) : (s.withBusId b).resetAfter = s.resetAfter := rfl
@[simp] theorem State.withBusId_sensor (s : State) (b : Nat) : (s.withBusId b).sensor = s.sensor := rfl
@[simp] theorem State.withBusId_turns (s : State) (b : Nat) : (s.withBusId b).turns = s.turns := rfl
@[simp] theorem State.inputAt_withBusId (s : State) (b k : Nat) : (s.withBusId b).inputAt k = s.inputAt k := rfl
@[simp] theorem State.isIdle_withBusId (s : State) (b : Nat) : (s.withBusId b).isIdle = s.isIdle := rfl

/-- The other agents' steps depend on EXCLUSIVE and SENSOR_WRITE alone (10_state.md R20). -/
@[simp] theorem State.sensorAtNext_withBusId (s : State) (b : Nat) :
    (s.withBusId b).sensorAtNext = s.sensorAtNext := rfl

@[simp] theorem State.withSensor_withBusId (s : State) (b : Nat) (x : Sensor) :
    (s.withBusId b).withSensor x = (s.withSensor x).withBusId b := rfl
@[simp] theorem State.arrive_withBusId (s : State) (b : Nat) : (s.withBusId b).arrive = s.arrive.withBusId b := rfl
@[simp] theorem State.record_withBusId (s : State) (b : Nat) (op : BusOp) :
    (s.withBusId b).record op = (s.record op).withBusId b := rfl
@[simp] theorem State.takeTurn_withBusId (s : State) (b : Nat) :
    (s.withBusId b).takeTurn = s.takeTurn.withBusId b := rfl
@[simp] theorem acceptCommand_withBusId (w : Command) (r : Option Nat) (s : State) (b : Nat) :
    acceptCommand w r (s.withBusId b) = (acceptCommand w r s).withBusId b := rfl

/-- A state transformer that neither reads nor changes BUS_ID: under another identifier it does the same. -/
def IgnoresBusId (k : State → State) : Prop := ∀ s b, k (s.withBusId b) = (k s).withBusId b

theorem IgnoresBusId.comp {k l : State → State} (hk : IgnoresBusId k) (hl : IgnoresBusId l) :
    IgnoresBusId (fun s => k (l s)) := by
  intro s b
  simp only [hl s b, hk (l s) b]

theorem respond_ignoresBusId (r : Response) : IgnoresBusId (respond r) := fun _ _ => rfl
theorem raise_ignoresBusId (kind : CommandError) : IgnoresBusId (raise kind) := fun _ _ => rfl
theorem abandon_ignoresBusId : IgnoresBusId abandon := fun _ _ => rfl
theorem startCheck_ignoresBusId : IgnoresBusId startCheck := fun _ _ => rfl
theorem enterPhase_ignoresBusId : IgnoresBusId enterPhase := fun _ _ => rfl
theorem latch_ignoresBusId (w : Word) : IgnoresBusId (latch w) := fun _ _ => rfl

theorem endPhase_ignoresBusId {k : State → State} (hk : IgnoresBusId k) : IgnoresBusId (endPhase k) := by
  intro s b
  by_cases h : s.resetAfter = some s.block.phase
  · simp [endPhase, h, abandon_ignoresBusId s b]
  · simp [endPhase, h, hk s b]

theorem checkPhase_ignoresBusId {k : State → State} (hk : IgnoresBusId k) : IgnoresBusId (checkPhase k) :=
  (endPhase_ignoresBusId hk).comp startCheck_ignoresBusId

theorem checkSel_ignoresBusId {k : State → State} (hk : IgnoresBusId k) (legal : Bool) (sel : Sel) :
    IgnoresBusId (checkSel legal sel k) := by
  cases legal
  · exact raise_ignoresBusId _
  · exact hk

theorem checkRange_ignoresBusId {k : State → State} (hk : IgnoresBusId k) (t : Tval) :
    IgnoresBusId (checkRange t k) := by
  intro s b
  cases h : outOfRange t
  · simp [checkRange, h, hk s b]
  · simp [checkRange, h, raise_ignoresBusId _ s b]

/-- A raw read answers the same reply, whatever the bus identifier (20_memory.md R52, R64). -/
theorem rawReadWord_withBusId (r : WordReg) (s : State) (b : Nat) :
    rawReadWord r (s.withBusId b) = (rawReadWord r s).map id (·.withBusId b) := by
  cases h : (s.inputAt 0).fate <;> simp [rawReadWord, h]

/-- A raw word write stores and answers the same, whatever the bus identifier (20_memory.md R52, R64). -/
theorem rawWriteWord_withBusId (r : WordReg) (raw : Word) (s : State) (b : Nat) :
    rawWriteWord r raw (s.withBusId b) = (rawWriteWord r raw s).map id (·.withBusId b) := by
  cases h : (s.inputAt 0).fate with
  | succeeds => simp [rawWriteWord, h]
  | fails stored => cases stored <;> simp [rawWriteWord, h]
  | powerOnReset drawn => simp [rawWriteWord, h]

/-- A raw byte write stores and answers the same, whatever the bus identifier (20_memory.md R56, R64). -/
theorem rawWriteByte_withBusId (v : Byte) (s : State) (b : Nat) :
    rawWriteByte v (s.withBusId b) = (rawWriteByte v s).map id (·.withBusId b) := by
  cases h : (s.inputAt 0).fate with
  | succeeds => simp [rawWriteByte, h]
  | fails stored => cases stored <;> simp [rawWriteByte, h]
  | powerOnReset drawn => simp [rawWriteByte, h]

/-- What follows a reply commutes with the bus identifier when going on does. -/
theorem afterReply_withBusId {α : Type} (pointer : Byte) {k : α → State → State} (hk : ∀ v, IgnoresBusId (k v))
    (reply : Reply α × State) (b : Nat) :
    afterReply pointer k (reply.map id (·.withBusId b)) = (afterReply pointer k reply).withBusId b := by
  obtain ⟨v | _, s⟩ := reply
  · exact endPhase_ignoresBusId (hk v) s b
  · exact endPhase_ignoresBusId (raise_ignoresBusId _) s b

theorem memReadWord_ignoresBusId (r : WordReg) {k : Word → State → State} (hk : ∀ v, IgnoresBusId (k v)) :
    IgnoresBusId (memReadWord r k) := by
  intro s b
  rw [memReadWord, enterPhase_ignoresBusId, rawReadWord_withBusId, afterReply_withBusId _ fun _ => hk _, memReadWord]

theorem memWriteWord_ignoresBusId (r : WordReg) (v : Word) {k : State → State} (hk : IgnoresBusId k) :
    IgnoresBusId (memWriteWord r v k) := by
  intro s b
  rw [memWriteWord, enterPhase_ignoresBusId, rawWriteWord_withBusId, afterReply_withBusId _ fun _ => hk, memWriteWord]

theorem memWriteByte_ignoresBusId (v : Byte) {k : State → State} (hk : IgnoresBusId k) :
    IgnoresBusId (memWriteByte v k) := by
  intro s b
  rw [memWriteByte, enterPhase_ignoresBusId, rawWriteByte_withBusId, afterReply_withBusId _ fun _ => hk, memWriteByte]

theorem rmwConfig_ignoresBusId (modify : Word → Word) : IgnoresBusId (rmwConfig modify) :=
  memReadWord_ignoresBusId _ fun cfg =>
    (memWriteWord_ignoresBusId _ _ (respond_ignoresBusId _)).comp (latch_ignoresBusId cfg)

/-- Every command is a state transformer that ignores BUS_ID (00_scope.md R5). -/
theorem exec_ignoresBusId (i : Instr) : ∃ k, IgnoresBusId k ∧ ∀ s, exec i s = .next (k s) := by
  cases i with
  | dect raw13 => exact ⟨_, checkPhase_ignoresBusId (respond_ignoresBusId _), fun _ => rfl⟩
  | enct t => exact ⟨_, checkPhase_ignoresBusId (checkRange_ignoresBusId (respond_ignoresBusId _) t), fun _ => rfl⟩
  | packf current mask shift value => exact ⟨_, checkPhase_ignoresBusId (respond_ignoresBusId _), fun _ => rfl⟩
  | self word mask shift => exact ⟨_, checkPhase_ignoresBusId (respond_ignoresBusId _), fun _ => rfl⟩
  | rdtemp =>
    exact ⟨_, checkPhase_ignoresBusId (memReadWord_ignoresBusId _ fun _ => respond_ignoresBusId _), fun _ => rfl⟩
  | setthr which t =>
    exact ⟨_, checkPhase_ignoresBusId (checkSel_ignoresBusId (checkRange_ignoresBusId
      (memWriteWord_ignoresBusId _ _ (respond_ignoresBusId _)) t) _ which), fun _ => rfl⟩
  | setres code =>
    exact ⟨_, checkPhase_ignoresBusId (checkSel_ignoresBusId
      (memWriteByte_ignoresBusId _ (respond_ignoresBusId _)) _ code), fun _ => rfl⟩
  | sethyst code =>
    exact ⟨_, checkPhase_ignoresBusId (checkSel_ignoresBusId (rmwConfig_ignoresBusId _) _ code), fun _ => rfl⟩
  | setshdn flag =>
    exact ⟨_, checkPhase_ignoresBusId (checkSel_ignoresBusId (rmwConfig_ignoresBusId _) _ flag), fun _ => rfl⟩
  | setclk flag =>
    exact ⟨_, checkPhase_ignoresBusId (checkSel_ignoresBusId (rmwConfig_ignoresBusId _) _ flag), fun _ => rfl⟩
  | setwlk flag =>
    exact ⟨_, checkPhase_ignoresBusId (checkSel_ignoresBusId (rmwConfig_ignoresBusId _) _ flag), fun _ => rfl⟩
  | setalrt enabled select polarity mode =>
    exact ⟨_, checkPhase_ignoresBusId (rmwConfig_ignoresBusId _), fun _ => rfl⟩
  | getalrt =>
    exact ⟨_, checkPhase_ignoresBusId (memReadWord_ignoresBusId _ fun ta =>
      (memReadWord_ignoresBusId _ fun _ => respond_ignoresBusId _).comp (latch_ignoresBusId ta)), fun _ => rfl⟩
  | clrint => exact ⟨_, checkPhase_ignoresBusId (rmwConfig_ignoresBusId _), fun _ => rfl⟩
  | reservedE => exact ⟨_, checkPhase_ignoresBusId (raise_ignoresBusId _), fun _ => rfl⟩
  | reservedF => exact ⟨_, checkPhase_ignoresBusId (raise_ignoresBusId _), fun _ => rfl⟩

/-- The same outcome under another bus identifier. -/
def outcomeWithBusId (b : Nat) : Host.Outcome State Fault Refusal → Host.Outcome State Fault Refusal
  | .next s => .next (s.withBusId b)
  | .fault why => .fault why
  | .refused why => .refused why

@[simp] theorem outcomeWithBusId_next (b : Nat) (s : State) :
    outcomeWithBusId b (.next s) = .next (s.withBusId b) := rfl
@[simp] theorem outcomeWithBusId_refused (b : Nat) (why : Refusal) :
    outcomeWithBusId b (.refused why) = .refused why := rfl

theorem exec_withBusId (i : Instr) (s : State) (b : Nat) :
    exec i (s.withBusId b) = outcomeWithBusId b (exec i s) := by
  obtain ⟨k, hk, hexec⟩ := exec_ignoresBusId i
  simp [hexec, hk s b]

theorem masterAccess_withBusId (p : Byte) (q : BusPrimitive) (s : State) (b : Nat) :
    masterAccess p q (s.withBusId b) = outcomeWithBusId b (masterAccess p q s) := by
  cases he : s.platform.exclusive
  · cases ha : accessTxn p q <;> simp [masterAccess, he, ha]
  · simp [masterAccess, he]

theorem powerOnResetTurn_withBusId (drawn : Sensor) (s : State) (b : Nat) :
    powerOnResetTurn drawn (s.withBusId b) = outcomeWithBusId b (powerOnResetTurn drawn s) := by
  cases hi : s.isIdle <;> simp [powerOnResetTurn, hi]

/-- One step under another bus identifier, refusals included (00_scope.md R5). -/
theorem step_withBusId (s : State) (b : Nat) : step (s.withBusId b) = outcomeWithBusId b (step s) := by
  unfold step
  rw [State.withBusId_turns]
  match s.turns with
  | [] => rfl
  | .command word resetAfter :: _ => cases hi : s.isIdle <;> simp [hi, exec_withBusId]
  | .sensor _ :: _ => rfl
  | .access pointer primitive :: _ => exact masterAccess_withBusId pointer primitive s.takeTurn b
  | .powerOnReset drawn :: _ => exact powerOnResetTurn_withBusId drawn s.takeTurn b
  | .blockReset :: _ => rfl

/-- Settles O51: a step commutes with changing the bus identifier. -/
theorem busIdIsNeverRead : Obligations.BusIdIsNeverRead := by
  intro s t b h
  have hstep := step_withBusId s b
  rwa [h] at hstep

end Sys2Proof.Machine
end

section
/-! Every step keeps the invariant (10_state.md R22 to R27, R36; 20_memory.md R60, R71). A command ends in
`State.finish` with allowed records (`Ran.eq_finish_allowed`); no other turn touches the block or its port. -/

namespace Sys2Proof.Machine

/-! The check phase -/

/-- A TVAL is in range between the two bounds (40_codec.md R104). -/
theorem outOfRange_eq_false_iff (t : Tval) : outOfRange t = false ↔ -16777216 ≤ traw t ∧ traw t ≤ 16773120 := by
  rw [← Bool.not_eq_true, outOfRange_iff]
  omega

/-- SETTHR passes its two checks, of `which` and of the TVAL (41_driver_temperature.md R123). -/
theorem checkError_setthr_eq_none_iff (which : Sel) (t : Tval) :
    checkError (.setthr which t) = none ↔ legalThreshold which = true ∧ outOfRange t = false := by
  cases hwhich : legalThreshold which <;> cases hrange : outOfRange t <;> simp [checkError, hwhich, hrange]

/-! The transactions the block may issue -/

/-- A TVAL in range encodes to 13 bits (40_codec.md R103). -/
theorem enctWord_toNat_lt {t : Tval} (h : outOfRange t = false) : (enctWord t).toNat < 8192 := by
  have hrange := (outOfRange_eq_false_iff t).mp h
  simp only [enctWord, enctMagnitude, BitVec.toNat_ofNat]
  split <;> omega

/-- The word SETTHR writes has bits 15:13 zero (10_state.md R36). -/
theorem enctWord_high_bits {t : Tval} (h : outOfRange t = false) : (enctWord t).extractLsb' 13 3 = 0 := by
  have hlt := enctWord_toNat_lt h
  apply BitVec.eq_of_toNat_eq
  simp only [BitVec.extractLsb'_toNat, Nat.shiftRight_eq_div_pow, Nat.div_eq_of_lt hlt]
  rfl

theorem BusOp.allowed_wr16_threshold (which : Sel) {t : Tval} (h : outOfRange t = false) (ok : Bool) :
    (BusOp.wr16 (thresholdReg which).pointer (swap16 (enctWord t)) ok).allowed = true := by
  unfold thresholdReg
  split_ifs <;> simp [BusOp.allowed, WordReg.pointer, enctWord_high_bits h]

theorem BusOp.allowed_wr8_resolution (code : Sel) (ok : Bool) :
    (BusOp.wr8 0x08 ((code.extractLsb' 0 2).setWidth 8) ok).allowed = true := by
  have hbits : ((code.extractLsb' 0 2).setWidth 8).extractLsb' 2 6 = 0 := by
    ext i hi
    simp
  simp [BusOp.allowed, hbits]

/-- A transaction of the block carries its own bus address (20_memory.md R71). -/
theorem State.allowed_seen (s : State) {phase : Nat} {op : BusOp} (hphase : phase = 1 ∨ phase = 2)
    (hop : op.allowed = true) : (s.seen phase op).allowed s.platform.devAddr = true := by
  simp [State.seen, BusRecord.allowed, hphase, hop]

/-- A record is allowed when its completed and its failed form are. -/
theorem Fate.allowed_shows {devAddr : Nat} (fate : Fate) {good bad : BusRecord}
    (hgood : good.allowed devAddr = true) (hbad : bad.allowed devAddr = true) :
    (fate.shows good bad).allowed devAddr = true := by
  obtain h | h := fate.shows_cases good bad <;> rwa [h]

/-! Commands -/

/-- However a command ends, it leaves an idle block and adds allowed records alone (20_memory.md R60, R71). -/
theorem Ran.eq_finish_allowed {i : Instr} {s t : State} (h : Ran i s t) :
    ∃ n records sensor out, t = s.finish n records sensor out ∧
      ∀ r ∈ records, r.allowed s.platform.devAddr = true := by
  have seen1 {op : BusOp} (hop : op.allowed = true) := s.allowed_seen (phase := 1) (.inl rfl) hop
  have seen2 {op : BusOp} (hop : op.allowed = true) := s.allowed_seen (phase := 2) (.inr rfl) hop
  cases h with
  | abandoned hr => exact ⟨_, _, _, _, rfl, by simp⟩
  | refused hr kind h => exact ⟨_, _, _, _, rfl, by simp⟩
  | codec hr data h hd => exact ⟨_, _, _, _, rfl, by simp⟩
  | temperature hr hi =>
    exact ⟨_, _, _, _, rfl, by simpa using Fate.allowed_shows _ (seen1 rfl) (seen1 rfl)⟩
  | threshold hr which v hi h =>
    subst hi
    have hop (ok : Bool) := BusOp.allowed_wr16_threshold which ((checkError_setthr_eq_none_iff which v).mp h).2 ok
    exact ⟨_, _, _, _, rfl, by simpa using Fate.allowed_shows _ (seen1 (hop true)) (seen1 (hop false))⟩
  | resolution hr code hi h =>
    have hop (ok : Bool) := BusOp.allowed_wr8_resolution code ok
    exact ⟨_, _, _, _, rfl, by simpa using Fate.allowed_shows _ (seen1 (hop true)) (seen1 (hop false))⟩
  | alertFirst hr hi h0 =>
    exact ⟨_, _, _, _, rfl, by simpa using Fate.allowed_shows _ (seen1 rfl) (seen1 rfl)⟩
  | alertSecond hr hi h0 h1 =>
    exact ⟨_, _, _, _, rfl, by simpa using ⟨Fate.allowed_shows _ (seen2 rfl) (seen2 rfl), seen1 rfl⟩⟩
  | modifyFirst hr modify hm h h0 =>
    exact ⟨_, _, _, _, rfl, by simpa using Fate.allowed_shows _ (seen1 rfl) (seen1 rfl)⟩
  | modifySecond hr modify hm h h0 h1 =>
    exact ⟨_, _, _, _, rfl, by simpa using ⟨Fate.allowed_shows _ (seen2 rfl) (seen2 rfl), seen1 rfl⟩⟩

/-! The invariant -/

/-- A finished command whose records are allowed leaves the invariant. -/
theorem State.inv_finish {s : State} (hs : ∀ r ∈ s.bus.trace, r.allowed s.platform.devAddr = true) (n : Nat)
    {records : List BusRecord} (hrecords : ∀ r ∈ records, r.allowed s.platform.devAddr = true) (sensor : Sensor)
    (out : Option Response) : (s.finish n records sensor out).Inv where
  idle := rfl
  noReset := rfl
  trace := fun r hr => (List.mem_append.mp hr).elim (hrecords r) (hs r)

/-- The invariant speaks of the platform, the block, the reset due and the port alone. -/
theorem State.Inv.congr {s t : State} (hs : s.Inv) (hplatform : t.platform = s.platform) (hblock : t.block = s.block)
    (hreset : t.resetAfter = s.resetAfter) (hbus : t.bus = s.bus) : t.Inv where
  idle := hblock.trans hs.idle
  noReset := hreset.trans hs.noReset
  trace := by rw [hbus, hplatform]; exact hs.trace

/-- Settles O52, by the turn that comes next: a command adds allowed records, the other turns none. -/
theorem everyStepKeepsTheInvariant : Obligations.EveryStepKeepsTheInvariant := by
  intro s t hs hstep
  obtain ⟨-, rfl⟩ | ⟨w, resetAfter, rest, -, -, hran⟩ | ⟨a, rest, -, rfl⟩ |
    ⟨p, q, rest, -, ⟨-, rfl⟩ | ⟨-, txn, -, rfl⟩⟩ | ⟨drawn, rest, -, -, rfl⟩ | ⟨rest, -, rfl⟩ := step_cases hstep
  · exact ⟨hs, rfl⟩
  · obtain ⟨n, records, sensor, out, rfl, hrecords⟩ := hran.eq_finish_allowed
    exact ⟨State.inv_finish (s := acceptCommand w resetAfter s.takeTurn) hs.trace n hrecords sensor out,
      rfl⟩
  · exact ⟨hs.congr rfl rfl rfl rfl, rfl⟩
  · exact ⟨hs.congr rfl rfl rfl rfl, rfl⟩
  · exact ⟨hs.congr rfl rfl rfl rfl, rfl⟩
  · exact ⟨hs.congr rfl rfl rfl rfl, rfl⟩
  · exact ⟨hs.congr rfl hs.idle.symm hs.noReset.symm rfl, rfl⟩

end Sys2Proof.Machine
end

section
/-! A power loss of the sensor in mid-command (10_state.md R41; log 7), from what a command can do (`exec_ran`): with
its checks passed and the losing transaction reached, the cases of `Ran` left are those that end in it. -/

namespace Sys2Proof.Machine

/-- The check phase raises nothing exactly when the command passes its checks (30_encoding.md R93). -/
theorem checkError_eq_none_iff (i : Instr) : checkError i = none ↔ PassesChecks i := by
  cases i with
  | enct t => simp [checkError, PassesChecks, tvalOperand, outOfRange_eq_false_iff, traw]
  | setthr which t =>
    rw [checkError_setthr_eq_none_iff, outOfRange_eq_false_iff]
    simp [PassesChecks, tvalOperand, legalThreshold, traw]
  | _ => simp [checkError, PassesChecks, tvalOperand, legalCode, legalBoolean]

/-- A codec command issues no transaction (40_codec.md R100). -/
theorem transactionCount_of_codecData {i : Instr} {data : BitVec 32} (h : codecData i = some data) :
    transactionCount i = 0 := by
  cases i <;> simp_all [codecData, transactionCount]

/-- A response is given where no reset of the block arrives at the end of its phase (70_reset_and_hazards.md R190). -/
theorem State.answer_of_noReset {s : State} {phase : Nat} (h : s.resetAfter ≠ some phase) (r : Response) :
    s.answer phase r = some r := if_neg h

/-- `State.finish` with a response is a finished command. -/
theorem State.finished_finish (s : State) (n : Nat) (records : List BusRecord) (sensor : Sensor) (r : Response) :
    Finished s (s.finish n records sensor (some r)) n records sensor r := by
  constructor <;> rfl

/-- A command whose first transaction meets a power loss ends there, with that transaction failed. -/
theorem Ran.finished_of_first_loss {i : Instr} {s t : State} (h : Ran i s t) {drawn : Sensor} (hi : PassesChecks i)
    (hcount : 0 < transactionCount i) (hreset : s.NoResetThrough 1)
    (hloss : (s.inputAt 0).fate = .powerOnReset drawn) :
    ∃ op : BusOp, op.succeeded = false ∧
      Finished s t 1 [s.seen 1 op] { drawn with config := drawn.config &&& 0xFF3F }
        (.error (.transportError op.pointer)) := by
  have hnone := (checkError_eq_none_iff i).mpr hi
  have hanswer := State.answer_of_noReset (hreset 1 (by omega))
  cases h with
  | abandoned hr => exact absurd hr (hreset 0 (by omega))
  | refused hr kind h => simp [hnone] at h
  | codec hr data h hd => simp [transactionCount_of_codecData hd] at hcount
  | alertSecond hr hi h0 h1 => simp [hloss] at h0
  | modifySecond hr modify hm h h0 h1 => simp [hloss] at h0
  | temperature hr hi =>
    rw [hloss, hanswer]
    exact ⟨.rd16 0x05 none, rfl, s.finished_finish ..⟩
  | threshold hr which v hi h =>
    rw [hloss, hanswer]
    exact ⟨.wr16 (thresholdReg which).pointer (swap16 (enctWord v)) false, rfl, s.finished_finish ..⟩
  | resolution hr code hi h =>
    rw [hloss, hanswer]
    exact ⟨.wr8 0x08 ((code.extractLsb' 0 2).setWidth 8) false, rfl, s.finished_finish ..⟩
  | alertFirst hr hi h0 =>
    rw [hloss, hanswer]
    exact ⟨.rd16 0x05 none, rfl, s.finished_finish ..⟩
  | modifyFirst hr modify hm h h0 =>
    rw [hloss, hanswer]
    exact ⟨.rd16 0x01 none, rfl, s.finished_finish ..⟩

/-- A command whose second transaction meets a power loss ends there, with the first done and the second failed. -/
theorem Ran.finished_of_second_loss {i : Instr} {s t : State} (h : Ran i s t) {drawn : Sensor} (hi : PassesChecks i)
    (hcount : transactionCount i = 2) (hreset : s.NoResetThrough 2) (hfirst : s.Succeeds 0)
    (hloss : (s.inputAt 1).fate = .powerOnReset drawn) :
    ∃ op first : BusOp, op.succeeded = false ∧ first.succeeded = true ∧
      Finished s t 2 [s.seen 2 op, s.seen 1 first] { drawn with config := drawn.config &&& 0xFF3F }
        (.error (.transportError op.pointer)) := by
  have hnone := (checkError_eq_none_iff i).mpr hi
  have hgoes : ¬ ((s.inputAt 0).fate ≠ .succeeds ∨ s.resetAfter = some 1) := by
    simpa [hfirst] using hreset 1 (by omega)
  have hanswer := State.answer_of_noReset (hreset 2 (by omega))
  cases h with
  | abandoned hr => exact absurd hr (hreset 0 (by omega))
  | refused hr kind h => simp [hnone] at h
  | codec hr data h hd => simp [transactionCount_of_codecData hd] at hcount
  | temperature hr hi => simp [hi, transactionCount] at hcount
  | threshold hr which v hi h => simp [hi, transactionCount] at hcount
  | resolution hr code hi h => simp [hi, transactionCount] at hcount
  | alertFirst hr hi h0 => exact absurd h0 hgoes
  | modifyFirst hr modify hm h h0 => exact absurd h0 hgoes
  | alertSecond hr hi h0 h1 =>
    rw [hloss, hanswer]
    exact ⟨.rd16 0x01 none, .rd16 0x05 (some _), rfl, rfl, s.finished_finish ..⟩
  | modifySecond hr modify hm h h0 h1 =>
    rw [hloss, hanswer]
    exact ⟨.wr16 0x01 (swap16 (modify (s.moved 0 s.sensor).config)) false, .rd16 0x01 (some _), rfl, rfl,
      s.finished_finish ..⟩

/-- Settles O46, by the transaction that meets the power loss. -/
theorem powerLossInACommandIsATransportError : Obligations.PowerLossInACommandIsATransportError := by
  intro i s drawn hi
  obtain ⟨t, hexec, hran⟩ := exec_ran i s
  constructor
  · intro hcount hreset hloss
    obtain ⟨op, hop, hfinished⟩ := hran.finished_of_first_loss hi hcount hreset hloss
    exact ⟨t, op, hexec, hop, hfinished⟩
  · intro hcount hreset hfirst hloss
    obtain ⟨op, first, hop, hdone, hfinished⟩ := hran.finished_of_second_loss hi hcount hreset hfirst hloss
    exact ⟨t, op, first, hexec, hop, hdone, hfinished⟩

end Sys2Proof.Machine
end

section
/-! What a write, a step and a power-on reset make of each bit of the sensor, and that a read makes nothing of it
(10_state.md R25, R34, R38 to R41; 70_reset_and_hazards.md R208). -/

namespace Sys2Proof.Machine

/-! Writes -/

/-- Where a write takes, no bit of a word register is kept (70_reset_and_hazards.md R208). -/
theorem keptWord_of_takesWrites {x : Sensor} {how : SensorWrite} (h : x.TakesWrites how) (r : WordReg) :
    keptWord how x r = 0 := by
  obtain rfl | ⟨halways, hwin, hcrit⟩ := h
  · exact keptWord_default x r
  · rw [keptWord_unlocked hwin hcrit, halways, KeptBits.word_none]

/-- Where a write takes, no bit of RESOLUTION is kept. -/
theorem keptByte_of_takesWrites {x : Sensor} {how : SensorWrite} (h : x.TakesWrites how) : keptByte how x = 0 := by
  obtain rfl | ⟨halways, hwin, hcrit⟩ := h
  · simp [keptByte, SensorWrite.default, KeptBits.none]
  · simp [keptByte, halways, hwin, hcrit, KeptBits.none]

/-- Where a write takes, it is the default write (10_state.md R38). -/
theorem sensorWrite_of_takesWrites {x : Sensor} {how : SensorWrite} (h : x.TakesWrites how) (r : WordReg) (v : Word) :
    sensorWrite how x r v = defaultWrite r (x.word r) v :=
  sensorWrite_of_kept_none (keptWord_of_takesWrites h r) v

theorem sensorWriteByte_of_takesWrites {x : Sensor} {how : SensorWrite} (h : x.TakesWrites how) (v : Byte) :
    sensorWriteByte how x v = v := by
  apply BitVec.eq_of_getLsbD_eq
  intro i _
  simp [getLsbD_sensorWriteByte, keptByte_of_takesWrites h]

/-- A kept bit of a word register is as it was. -/
theorem getLsbD_sensorWrite_of_keeps {how : SensorWrite} {x : Sensor} {r : WordReg} {i : Nat}
    (h : how.Keeps x (fun kept => (kept.word r).getLsbD i)) (v : Word) :
    (sensorWrite how x r v).getLsbD i = (x.word r).getLsbD i := by
  rw [getLsbD_sensorWrite, if_pos ((getLsbD_keptWord how x r i).mpr h)]

/-- A bit of a word register that is not kept is as the default write has it. -/
theorem getLsbD_sensorWrite_of_not_keeps {how : SensorWrite} {x : Sensor} {r : WordReg} {i : Nat}
    (h : ¬ how.Keeps x (fun kept => (kept.word r).getLsbD i)) (v : Word) :
    (sensorWrite how x r v).getLsbD i = (defaultWrite r (x.word r) v).getLsbD i := by
  rw [getLsbD_sensorWrite, if_neg (mt (getLsbD_keptWord how x r i).mp h)]

theorem getLsbD_sensorWriteByte_of_keeps {how : SensorWrite} {x : Sensor} {i : Nat}
    (h : how.Keeps x (fun kept => kept.resolution.getLsbD i)) (v : Byte) :
    (sensorWriteByte how x v).getLsbD i = x.resolution.getLsbD i := by
  rw [getLsbD_sensorWriteByte, if_pos ((getLsbD_keptByte how x i).mpr h)]

theorem getLsbD_sensorWriteByte_of_not_keeps {how : SensorWrite} {x : Sensor} {i : Nat}
    (h : ¬ how.Keeps x (fun kept => kept.resolution.getLsbD i)) (v : Byte) :
    (sensorWriteByte how x v).getLsbD i = v.getLsbD i := by
  rw [getLsbD_sensorWriteByte, if_neg (mt (getLsbD_keptByte how x i).mp h)]

/-- A lock bit that is set survives a write of CONFIG, kept or not (10_state.md R38). -/
theorem getLsbD_sensorWrite_config_lock {how : SensorWrite} {x : Sensor} (v : Word) {i : Nat} (hi : i = 6 ∨ i = 7)
    (h : x.config.getLsbD i = true) : (sensorWrite how x .config v).getLsbD i = true := by
  rw [getLsbD_sensorWrite]
  split
  · exact h
  · have h4 : i ≠ 4 := by omega
    simp [defaultWrite, getLsbD_configWrite, Sensor.word, h4, hi, h]

theorem locksKept_storeWord_config (x : Sensor) (how : SensorWrite) (v : Word) :
    LocksKept x (x.storeWord how .config v) where
  win := getLsbD_sensorWrite_config_lock v (.inl rfl)
  crit := getLsbD_sensorWrite_config_lock v (.inr rfl)

/-- A threshold takes the value written by default (10_state.md R38). -/
theorem defaultWrite_threshold {r : WordReg} (h : r = .tupper ∨ r = .tlower ∨ r = .tcrit) (old v : Word) :
    defaultWrite r old v = v := by
  obtain rfl | rfl | rfl := h <;> rfl

/-- Settles O16, clause by clause: where nothing is kept, what is kept, what is not, and the frame. -/
theorem sensorWriteBits : Obligations.SensorWriteBits := by
  refine ⟨fun x how v i _ h => ?_, fun x how v h => ⟨?_, ?_, ?_⟩, fun x how v => sensorWrite_tambient how x v,
    fun x how v h => sensorWriteByte_of_takesWrites h v, fun x how r v i h => getLsbD_sensorWrite_of_keeps h v,
    fun x how v i h => getLsbD_sensorWriteByte_of_keeps h v, fun x how v i _ h => ?_, fun x how r v i hr h => ?_,
    fun x how v i h => getLsbD_sensorWriteByte_of_not_keeps h v, locksKept_storeWord_config,
    fun x how v => ⟨x.resolution_storeByte how v, x.word_storeByte how v⟩,
    fun x how r v => ⟨x.word_storeWord how r v, x.resolution_storeWord how r v,
      fun q hq => x.word_storeWord_other how hq v⟩⟩
  · rw [sensorWrite_of_takesWrites h]
    exact getLsbD_configWrite x.config v i
  · exact sensorWrite_of_takesWrites h .tupper v
  · exact sensorWrite_of_takesWrites h .tlower v
  · exact sensorWrite_of_takesWrites h .tcrit v
  · rw [getLsbD_sensorWrite_of_not_keeps (r := .config) h]
    exact getLsbD_configWrite x.config v i
  · rw [getLsbD_sensorWrite_of_not_keeps h, defaultWrite_threshold hr]

/-! Reads -/

/-- Settles O17: a successful read answers the register that the other agents left, and the read of a master is the
identity. -/
theorem readsReturnAndChangeNothing : Obligations.ReadsReturnAndChangeNothing := by
  refine ⟨fun r s h => ?_, fun s h => ?_, fun r how x => ⟨rfl, rfl⟩⟩
  · simp [rawReadWord, h, State.sensorAtNext]
  · simp [rawReadByte, h, State.sensorAtNext]

/-! The sensor's own steps and power-on reset -/

/-- A word under a mask that is 0 at the `cleared` bits and 1 elsewhere. -/
theorem getLsbD_and_clearing {mask : Word} {cleared : Nat → Prop} [DecidablePred cleared]
    (hmask : ∀ i < 16, mask.getLsbD i = !decide (cleared i)) (w : Word) (i : Nat) :
    (w &&& mask).getLsbD i = if cleared i then false else w.getLsbD i := by
  by_cases hi : i < 16
  · by_cases hc : cleared i <;> simp [hmask i hi, hc]
  · simp [BitVec.getLsbD_of_ge _ i (Nat.le_of_not_lt hi)]

/-- CONFIG after SensorIntClrDone: bit 5 is cleared alone (10_state.md R40). -/
theorem getLsbD_config_intClrDone (x : Sensor) (i : Nat) :
    (sensorStep .intClrDone x).config.getLsbD i = if i = 5 then false else x.config.getLsbD i :=
  getLsbD_and_clearing (cleared := (· = 5)) (by decide) x.config i

/-- CONFIG after a power-on reset: the lock bits are cleared alone (10_state.md R41). -/
theorem getLsbD_config_powerOnReset (drawn : Sensor) (i : Nat) :
    (powerOnReset drawn).config.getLsbD i = if i = 6 ∨ i = 7 then false else drawn.config.getLsbD i :=
  getLsbD_and_clearing (cleared := fun i => i = 6 ∨ i = 7) (by decide) drawn.config i

/-- The bit SensorAlert sets is bit 4 (10_state.md R40). -/
theorem getLsbD_alert_bit (active : Bool) (i : Nat) :
    (if active then (0x0010 : Word) else 0x0000).getLsbD i = (decide (i = 4) && active) := by
  cases active
  · simp
  · change (BitVec.twoPow 16 4).getLsbD i = _
    simp [BitVec.getLsbD_twoPow, eq_comm]

/-- CONFIG after SensorAlert: bit 4 as the alert, every other bit as it was (10_state.md R40). -/
theorem getLsbD_config_alert (active : Bool) (x : Sensor) (i : Nat) :
    (sensorStep (.alert active) x).config.getLsbD i = if i = 4 then active else x.config.getLsbD i := by
  have hclear := getLsbD_and_clearing (mask := 0xFFEF) (cleared := (· = 4)) (by decide) x.config i
  simp only [sensorStep, BitVec.getLsbD_or, hclear, getLsbD_alert_bit]
  by_cases h : i = 4 <;> simp [h]

/-- Settles O18: the bits of CONFIG after each step of the sensor; the rest is what the steps are. -/
theorem sensorStepsChangeOnlyTheirOwnBits : Obligations.SensorStepsChangeOnlyTheirOwnBits := by
  intro x
  exact ⟨fun v => rfl, fun b => ⟨_, rfl, getLsbD_config_alert b x⟩, ⟨_, rfl, getLsbD_config_intClrDone x⟩,
    fun p a => rfl, fun p txn => rfl, fun how r v => rfl, fun how v => rfl, fun p => agentSteps_nil p x,
    fun p a rest => agentSteps_cons p a rest x⟩

/-! Turns of the other agents -/

theorem State.isIdle_of_idle {s : State} (h : s.Idle) : s.isIdle = true := by
  simp [State.isIdle, h, Block.idle]

theorem step_of_no_turn {s : State} (h : s.turns = []) : step s = .next s := by
  simp [step, h]

theorem step_of_sensor {s : State} {a : SensorStep} {rest : List Turn} (h : s.turns = .sensor a :: rest) :
    step s = .next (sensorTurn a s.takeTurn) := by
  simp [step, h]

theorem step_of_access {s : State} {p : Byte} {q : BusPrimitive} {rest : List Turn}
    (h : s.turns = .access p q :: rest) : step s = masterAccess p q s.takeTurn := by
  simp [step, h]

theorem step_of_powerOnReset {s : State} {drawn : Sensor} {rest : List Turn} (hidle : s.Idle)
    (h : s.turns = .powerOnReset drawn :: rest) :
    step s = .next (s.takeTurn.withSensor (powerOnReset drawn)) := by
  have hidle : s.takeTurn.isIdle = true := State.isIdle_of_idle hidle
  simp [step, h, powerOnResetTurn, hidle]

/-- An access that fits its register acts on the sensor as the master's transaction does, when there is another master
(70_reset_and_hazards.md R196; log 14). -/
theorem step_of_fitting_access {s : State} {p : Byte} {q : BusPrimitive} {rest : List Turn}
    (h : s.turns = .access p q :: rest) {txn : MasterTxn} (htxn : accessTxn p q = .ok txn) :
    step s = .next { s with
      turns := rest
      sensor := if s.platform.exclusive then s.sensor else masterTxn s.platform.sensorWrite txn s.sensor } := by
  rw [step_of_access h]
  cases hexclusive : s.platform.exclusive <;>
    simp [masterAccess, hexclusive, htxn, State.takeTurn, State.withSensor, h]

theorem accessTxn_readWord (r : WordReg) : accessTxn r.pointer .readWord = .ok (.readWord r) := by
  simp [accessTxn]

theorem accessTxn_writeWord (r : WordReg) (raw : Word) :
    accessTxn r.pointer (.writeWord raw) = .ok (.writeWord r (swap16 raw)) := by
  simp [accessTxn]

/-- Settles O45: the turn ends in `powerOnReset`, which clears the lock bits alone. -/
theorem powerOnResetClearsTheLocks : Obligations.PowerOnResetClearsTheLocks := by
  intro s drawn rest hidle hturns
  have hbit := getLsbD_config_powerOnReset drawn
  refine ⟨_, step_of_powerOnReset hidle hturns, hbit 6, hbit 7, fun k h6 h7 => ?_, fun r hr => ?_, rfl, rfl, rfl, rfl,
    rfl, ?_⟩
  · exact (hbit k).trans (if_neg (by omega))
  · cases r with
    | config => exact absurd rfl hr
    | _ => rfl
  · simp [hturns]

/-- Settles O56, by the turn: an access by `step_of_fitting_access`, where a read is the identity. -/
theorem otherAgentsActOnTheSensorAlone : Obligations.OtherAgentsActOnTheSensorAlone := by
  refine ⟨fun s a rest h => ?_, fun s r rest h => ?_, fun s rest h => ?_, fun s r raw rest h => ?_,
    fun s v rest h => ?_, fun s h => step_of_no_turn h⟩
  · rw [step_of_sensor h]
    simp [sensorTurn, State.takeTurn, State.withSensor, h]
  · rw [step_of_fitting_access h (accessTxn_readWord r)]
    simp [masterTxn]
  · rw [step_of_fitting_access h (txn := .readByte) rfl]
    simp [masterTxn]
  · exact step_of_fitting_access h (accessTxn_writeWord r raw)
  · exact step_of_fitting_access h (txn := .writeByte v) rfl

/-! The field tables -/

/-- Settles O57, on the two tables as they stand. -/
theorem fieldsFillTheirRegisters : Obligations.FieldsFillTheirRegisters := by
  unfold Obligations.FieldsFillTheirRegisters
  decide

end Sys2Proof.Machine
end

section
/-! Single transactions: the port of the block (20_memory.md R50 to R57, R64), and another master's access that fits no
register (20_memory.md R59; 10_state.md R27; log 11). -/

namespace Sys2Proof.Machine

/-! The block's port -/

theorem State.sensorAtNext_eq_moved (s : State) : s.sensorAtNext = s.moved 0 s.sensor := rfl

/-- Settles O19: a read answers the swapped register, whose bits `getLsbD_swap16` gives. -/
theorem rawWordsAreByteSwapped : Obligations.RawWordsAreByteSwapped := by
  intro r s h
  have hread : (rawReadWord r s).1 = .value (swap16 ((s.moved 0 s.sensor).word r)) :=
    (readsReturnAndChangeNothing.1 r s h).1
  refine ⟨fun i hi raw hraw => ?_, ⟨_, hread⟩, fun raw => ?_, fun v => ?_⟩
  · obtain rfl : swap16 ((s.moved 0 s.sensor).word r) = raw := by simpa [hread] using hraw
    have hlow := getLsbD_swap16 ((s.moved 0 s.sensor).word r) (i := i) (by omega)
    have hhigh := getLsbD_swap16 ((s.moved 0 s.sensor).word r) (i := i + 8) (by omega)
    exact ⟨by simpa using hhigh, by simpa [hi] using hlow⟩
  · simp [rawWriteWord, h, State.sensorAtNext_eq_moved, Sensor.storeWord]
  · simp [rawWriteByte, h, State.sensorAtNext_eq_moved, Sensor.storeByte]

/-- The command goes on where no reset of the block comes at the end of the phase (70_reset_and_hazards.md R190). -/
theorem endPhase_of_noReset {s : State} (h : s.resetAfter ≠ some s.block.phase) (k : State → State) :
    endPhase k s = k s := if_neg h

/-- Settles O20, by what each normalized access is when its transaction succeeds. -/
theorem normalizedAccessesActOnTheRegister : Obligations.NormalizedAccessesActOnTheRegister := by
  refine ⟨swap16_swap16, fun r k s h hreset => ?_, fun r v k s h hreset => ?_⟩
  · rw [memReadWord_succeeds h, endPhase_of_noReset hreset]
    exact ⟨_, rfl, rfl, rfl, rfl, rfl⟩
  · rw [memWriteWord_succeeds h, endPhase_of_noReset hreset]
    exact ⟨_, rfl, Sensor.word_storeWord .., fun q hq => Sensor.word_storeWord_other _ _ hq v,
      Sensor.resolution_storeWord .., rfl, rfl, rfl⟩

/-- Settles O21, primitive by primitive; a failed write by whether the value was stored. -/
theorem failedTransactionsLeaveOldOrNew : Obligations.FailedTransactionsLeaveOldOrNew := by
  intro s stored h
  refine ⟨fun r => ?_, ?_, fun r raw => ?_, fun v => ?_⟩
  · simp [rawReadWord, h, State.sensorAtNext_eq_moved]
  · simp [rawReadByte, h, State.sensorAtNext_eq_moved]
  · cases stored <;> simp [rawWriteWord, h, State.sensorAtNext_eq_moved]
  · cases stored <;> simp [rawWriteByte, h, State.sensorAtNext_eq_moved]

/-! Another master's access that fits no register -/

/-- The word registers are at the pointers 1 to 5 (10_state.md R24). -/
theorem WordReg.exists_pointer_eq_iff (p : Byte) : (∃ r : WordReg, r.pointer = p) ↔ 1 ≤ p.toNat ∧ p.toNat ≤ 5 := by
  constructor
  · rintro ⟨r, rfl⟩
    cases r <;> decide
  · intro h
    have hp : p = 1 ∨ p = 2 ∨ p = 3 ∨ p = 4 ∨ p = 5 := by bv_omega
    obtain rfl | rfl | rfl | rfl | rfl := hp
    exacts [⟨.config, rfl⟩, ⟨.tupper, rfl⟩, ⟨.tlower, rfl⟩, ⟨.tcrit, rfl⟩, ⟨.tambient, rfl⟩]

theorem WordReg.pointer_of_ofPointer {p : Byte} {r : WordReg} (h : WordReg.ofPointer p = some r) : r.pointer = p := by
  unfold WordReg.ofPointer at h
  split_ifs at h <;> cases h <;> exact Eq.symm ‹_›

/-- Elsewhere there is no word register. -/
theorem WordReg.ofPointer_eq_none {p : Byte} (h : p.toNat < 1 ∨ 5 < p.toNat) : WordReg.ofPointer p = none := by
  rw [Option.eq_none_iff_forall_ne_some]
  intro r hr
  have hbounds := (WordReg.exists_pointer_eq_iff p).mp ⟨r, WordReg.pointer_of_ofPointer hr⟩
  omega

theorem accessTxn_byte_at_word_register (r : WordReg) {primitive : BusPrimitive}
    (h : primitive = .readByte ∨ ∃ v, primitive = .writeByte v) :
    accessTxn r.pointer primitive = .error .widthMismatch := by
  obtain rfl | ⟨v, rfl⟩ := h <;> simp [accessTxn]

theorem accessTxn_word_at_resolution {primitive : BusPrimitive}
    (h : primitive = .readWord ∨ ∃ raw, primitive = .writeWord raw) :
    accessTxn 0x08 primitive = .error .widthMismatch := by
  obtain rfl | ⟨raw, rfl⟩ := h <;> rfl

theorem accessTxn_without_register {p : Byte} (hword : WordReg.ofPointer p = none) (hbyte : p ≠ resolutionPointer)
    (primitive : BusPrimitive) : accessTxn p primitive = .error .noRegister := by
  simp [accessTxn, hword, hbyte]

/-- An access that fits no register is refused, when there is another master (70_reset_and_hazards.md R196; log 14). -/
theorem step_of_misfit_access {s : State} {p : Byte} {q : BusPrimitive} {rest : List Turn}
    (h : s.turns = .access p q :: rest) (hexclusive : s.platform.exclusive = false) {reason : Refusal}
    (hmisfit : accessTxn p q = .error reason) : step s = .refused reason := by
  rw [step_of_access h]
  simp [masterAccess, hexclusive, hmisfit]

/-- Settles O48, by which register is at the pointer: a word register, RESOLUTION or none. -/
theorem misfitAccessesAreRefused : Obligations.MisfitAccessesAreRefused := by
  intro s p primitive rest hturns hexclusive
  refine ⟨fun h1 h5 hbyte => ?_, fun hp hword => ?_, fun hp => ?_⟩
  · obtain ⟨r, rfl⟩ := (WordReg.exists_pointer_eq_iff p).mpr ⟨h1, h5⟩
    exact step_of_misfit_access hturns hexclusive (accessTxn_byte_at_word_register r hbyte)
  · subst hp
    exact step_of_misfit_access hturns hexclusive (accessTxn_word_at_resolution hword)
  · have hresolution : p ≠ resolutionPointer := by
      rintro rfl
      simp [resolutionPointer] at hp
    exact step_of_misfit_access hturns hexclusive
      (accessTxn_without_register (WordReg.ofPointer_eq_none (by omega)) hresolution primitive)

end Sys2Proof.Machine
end

section
/-! What a command makes of the registers when it is alone with the sensor (20_memory.md R60), from what a command can
do (`exec_ran`): nothing, or one store to a register it may write. -/

namespace Sys2Proof.Machine

/-- SETTHR's register is at `0x02 + which` (41_driver_temperature.md R122). -/
theorem thresholdReg_pointer {which : Sel} (h : legalThreshold which = true) :
    (thresholdReg which).pointer = 0x02 + which.setWidth 8 := by
  revert which
  decide

theorem mayWriteWord_setthr {which : Sel} {t : Tval} (h : checkError (.setthr which t) = none) :
    mayWriteWord (.setthr which t) (thresholdReg which) = true := by
  have hlegal := ((checkError_setthr_eq_none_iff which t).mp h).1
  have hle : which.toNat ≤ 2 := by simpa [legalThreshold] using hlegal
  simp [mayWriteWord, hle, thresholdReg_pointer hlegal]

/-- A read-modify-write command may write CONFIG (42_driver_config.md R140). -/
theorem mayWriteWord_config_of_modifyOf {i : Instr} {modify : Word → Word} (h : modifyOf i = some modify) :
    mayWriteWord i .config = true := by
  cases i <;> simp_all [modifyOf, mayWriteWord]

/-- The sensor after a command that no other agent and no power-on reset met (20_memory.md R60): as it was, or with
one store to a register the command may write. -/
theorem Ran.sensor_of_quiet {i : Instr} {s t : State} (h : Ran i s t) (hquiet0 : s.Quiet 0) (hquiet1 : s.Quiet 1)
    (hpower0 : (s.inputAt 0).fate.isPowerOnReset = false) (hpower1 : (s.inputAt 1).fate.isPowerOnReset = false) :
    t.sensor = s.sensor ∨
      (∃ r v, mayWriteWord i r = true ∧ t.sensor = s.sensor.storeWord s.platform.sensorWrite r v) ∨
      (∃ v, mayWriteResolution i = true ∧ t.sensor = s.sensor.storeByte s.platform.sensorWrite v) := by
  have hmoved0 := State.moved_of_quiet hquiet0 s.sensor
  have hmoved1 : s.moved 1 (s.moved 0 s.sensor) = s.sensor := by rw [hmoved0, State.moved_of_quiet hquiet1]
  have hread0 := (Fate.afterRead_of_not_powerOnReset hpower0 (s.moved 0 s.sensor)).trans hmoved0
  have hread1 := (Fate.afterRead_of_not_powerOnReset hpower1 (s.moved 1 (s.moved 0 s.sensor))).trans hmoved1
  have hwrite0 := Fate.afterWrite_of_not_powerOnReset hpower0 s.sensor
  have hwrite1 := Fate.afterWrite_of_not_powerOnReset hpower1 s.sensor
  cases h with
  | abandoned hr => exact .inl rfl
  | refused hr kind h => exact .inl rfl
  | codec hr data h hd => exact .inl rfl
  | temperature hr hi => exact .inl hread0
  | alertFirst hr hi h0 => exact .inl hread0
  | alertSecond hr hi h0 h1 => exact .inl hread1
  | modifyFirst hr modify hm h h0 => exact .inl hread0
  | threshold hr which v hi h =>
    subst hi
    rw [hmoved0]
    exact (hwrite0 _).imp_right fun hnew => .inl ⟨_, _, mayWriteWord_setthr h, hnew⟩
  | resolution hr code hi h =>
    subst hi
    rw [hmoved0]
    exact (hwrite0 _).imp_right fun hnew => .inr ⟨_, rfl, hnew⟩
  | modifySecond hr modify hm h h0 h1 =>
    rw [hmoved1]
    exact (hwrite1 _).imp_right fun hnew => .inl ⟨_, _, mayWriteWord_config_of_modifyOf hm, hnew⟩

/-- Settles O43: the one store a command makes is to a register it may write, and changes no other. -/
theorem commandsWriteOnlyTheirRegister : Obligations.CommandsWriteOnlyTheirRegister := by
  intro i s t hquiet0 hquiet1 hpower0 hpower1 hexec
  obtain h | ⟨q, v, hmay, h⟩ | ⟨v, hmay, h⟩ :=
    (ran_of_exec hexec).sensor_of_quiet hquiet0 hquiet1 hpower0 hpower1 <;> rw [h]
  · exact ⟨fun r _ => rfl, fun _ => rfl⟩
  · refine ⟨fun r hr => Sensor.word_storeWord_other _ _ ?_ v, fun _ => Sensor.resolution_storeWord ..⟩
    rintro rfl
    simp [hmay] at hr
  · exact ⟨fun r _ => Sensor.word_storeByte .., fun hr => by simp [hmay] at hr⟩

end Sys2Proof.Machine
end

section
/-! GETALRT between the sensor's steps (42_driver_config.md R147; 70_reset_and_hazards.md R198): the flags are those of
the sensor at the first read, the active bit that of the sensor at the second. -/

namespace Sys2Proof.Machine

/-! The data GETALRT answers -/

/-- CMP_FLAGS are the upper three bits of TAMBIENT (10_state.md R34). -/
theorem cmpFlags_toNat (ta : Word) : (cmpFlags ta).toNat = ta.toNat / 2 ^ 13 := by
  have hshift : cmpFlags ta = ta >>> 13 := by
    ext i hi
    interval_cases i <;> simp [cmpFlags, cmpFlagsField, Field.select, selectField]
  rw [hshift, BitVec.toNat_ushiftRight, Nat.shiftRight_eq_div_pow]

/-- ALERT_STAT is bit 4 of CONFIG (10_state.md R25). -/
theorem getLsbD_zero_alertActive (cfg : Word) : (alertActive cfg).getLsbD 0 = cfg.getLsbD 4 := by
  rw [alertActive, Field.select, getLsbD_selectField]
  simp [alertStatField]

/-- `{flags[2:0], active}` as a number (42_driver_config.md R147). -/
theorem alertData_toNat (flags active : Word) :
    (alertData flags active).toNat = 2 * (flags.toNat % 8) + (active.getLsbD 0).toNat := by
  have hactive : (active.extractLsb' 0 1).toNat < 2 ^ 1 := (active.extractLsb' 0 1).isLt
  rw [alertData, BitVec.toNat_setWidth_of_le (by omega), BitVec.toNat_append,
    ← Nat.shiftLeft_add_eq_or_of_lt hactive, Nat.shiftLeft_eq, BitVec.getLsbD, Nat.toNat_testBit]
  simp only [BitVec.extractLsb'_toNat, Nat.shiftRight_zero]
  omega

theorem alertData_toNat_of_registers (ta cfg : Word) :
    (alertData (cmpFlags ta) (alertActive cfg)).toNat =
      2 * (ta.toNat / 2 ^ 13) + (if cfg.getLsbD 4 then 1 else 0) := by
  have hflags : ta.toNat / 2 ^ 13 < 8 := by omega
  rw [alertData_toNat, cmpFlags_toNat, getLsbD_zero_alertActive, Nat.mod_eq_of_lt hflags, Bool.toNat, Bool.cond_eq_ite]

/-! The command -/

/-- GETALRT with both reads successful and no reset of the block (42_driver_config.md R147). -/
theorem Ran.finished_getalrt {s t : State} (h : Ran .getalrt s t) (hreset : s.NoResetThrough 2) (hfirst : s.Succeeds 0)
    (hsecond : s.Succeeds 1) :
    Finished s t 2
      [s.seen 2 (.rd16 0x01 (some (swap16 (s.moved 1 (s.moved 0 s.sensor)).config))),
        s.seen 1 (.rd16 0x05 (some (swap16 (s.moved 0 s.sensor).tambient)))]
      (s.moved 1 (s.moved 0 s.sensor))
      (.ok (alertData (cmpFlags (s.moved 0 s.sensor).tambient)
        (alertActive (s.moved 1 (s.moved 0 s.sensor)).config))) := by
  cases h with
  | abandoned hr => exact absurd hr (hreset 0 (by omega))
  | refused hr kind h => cases h
  | codec hr data h hd => cases hd
  | temperature hr hi => cases hi
  | threshold hr which v hi h => cases hi
  | resolution hr code hi h => cases hi
  | modifyFirst hr modify hm h h0 => cases hm
  | modifySecond hr modify hm h h0 h1 => cases hm
  | alertFirst hr hi h0 => exact absurd h0 (by simpa [hfirst] using hreset 1 (by omega))
  | alertSecond hr hi h0 h1 =>
    rw [hsecond, State.answer_of_noReset (hreset 2 (by omega))]
    exact s.finished_finish ..

/-- What the sensor's own steps before a transaction make of it, whatever `EXCLUSIVE` (10_state.md R40). -/
theorem State.moved_of_sensor_steps {s : State} {k : Nat} {steps : List SensorStep}
    (h : (s.inputAt k).before = steps.map .sensor) (x : Sensor) :
    s.moved k x = steps.foldl (fun sensor step => sensorStep step sensor) x := by
  rw [State.moved, h, agentSteps_sensor]

/-- GETALRT where only the sensor moves, whatever `EXCLUSIVE`: before the first read by `first`, between the reads by
`second` (70_reset_and_hazards.md R198). -/
theorem exec_getalrt_between_sensor_steps {s : State} {first second : List SensorStep} {rest : List TxnInput}
    (hreset : s.NoResetThrough 2)
    (hscript : s.bus.script = { before := first.map .sensor, fate := .succeeds } ::
      { before := second.map .sensor, fate := .succeeds } :: rest) :
    ∃ t d x y, exec .getalrt s = .next t ∧
      x = first.foldl (fun sensor step => sensorStep step sensor) s.sensor ∧
      y = second.foldl (fun sensor step => sensorStep step sensor) x ∧
      Finished s t 2
        [s.seen 2 (.rd16 0x01 (some (swap16 y.config))), s.seen 1 (.rd16 0x05 (some (swap16 x.tambient)))]
        y (.ok d) ∧
      d.toNat = 2 * (x.tambient.toNat / 2 ^ 13) + (if y.config.getLsbD 4 then 1 else 0) := by
  have hinput0 := State.inputAt_of_script (s := s) (k := 0) (by rw [hscript]; rfl)
  have hinput1 := State.inputAt_of_script (s := s) (k := 1) (by rw [hscript]; rfl)
  obtain ⟨t, hexec, hran⟩ := exec_ran .getalrt s
  have hfinished := hran.finished_getalrt hreset (congrArg TxnInput.fate hinput0) (congrArg TxnInput.fate hinput1)
  exact ⟨t, _, _, _, hexec, State.moved_of_sensor_steps (congrArg TxnInput.before hinput0) _,
    State.moved_of_sensor_steps (congrArg TxnInput.before hinput1) _, hfinished, alertData_toNat_of_registers _ _⟩

/-- Settles O59: the second part is the first, with one measurement before the first read and a measurement and an alert
between the two. -/
theorem sensorStepsBetweenTheReadsAreSeen : Obligations.SensorStepsBetweenTheReadsAreSeen := by
  refine ⟨fun s first second rest hreset hscript => exec_getalrt_between_sensor_steps hreset hscript,
    fun s before between active rest hreset hscript => ?_⟩
  obtain ⟨t, d, x, y, hexec, rfl, rfl, hfinished, hdata⟩ :=
    exec_getalrt_between_sensor_steps (first := [.measure before]) (second := [.measure between, .alert active])
      hreset hscript
  refine ⟨t, d, hexec, hfinished.responses, ?_, ?_⟩
  · rw [hfinished.sensor]
    rfl
  · have hactive := getLsbD_config_alert active
      (sensorStep (.measure between) (sensorStep (.measure before) s.sensor)) 4
    rw [hdata, List.foldl_cons, List.foldl_cons, List.foldl_cons, List.foldl_nil, List.foldl_nil, hactive]
    rfl

end Sys2Proof.Machine
end

section
/-! The encoding (30_encoding.md R80 to R92). A word is its five fields, and a masked word its masked fields; so the
encoder undoes the decoder on the fields a command has (`encode_decode`), and the decoder undoes the encoder. -/

namespace Sys2Proof

open Machine Laws

/-! The fields of an assembled word -/

/-- A field above an appended word is that field of what the word was appended to. -/
theorem extractLsb'_append_word {n : Nat} (x : BitVec n) (w : Word) (start len : Nat) :
    (x ++ w).extractLsb' (start + 16) len = x.extractLsb' start len :=
  BitVec.extractLsb'_append_eq_of_le (Nat.le_add_left ..)

@[simp] theorem a_assembleFields (op : BitVec 4) (sel : Sel) (c b a : Word) : (assembleFields op sel c b a).a = a :=
  BitVec.extractLsb'_append_eq_right

@[simp] theorem b_assembleFields (op : BitVec 4) (sel : Sel) (c b a : Word) : (assembleFields op sel c b a).b = b :=
  (extractLsb'_append_word _ a 0 16).trans BitVec.extractLsb'_append_eq_right

@[simp] theorem c_assembleFields (op : BitVec 4) (sel : Sel) (c b a : Word) : (assembleFields op sel c b a).c = c :=
  (extractLsb'_append_word _ a 16 16).trans <|
    (extractLsb'_append_word _ b 0 16).trans BitVec.extractLsb'_append_eq_right

@[simp] theorem sel_assembleFields (op : BitVec 4) (sel : Sel) (c b a : Word) :
    (assembleFields op sel c b a).sel = sel :=
  (extractLsb'_append_word _ a 32 4).trans <| (extractLsb'_append_word _ b 16 4).trans <|
    (extractLsb'_append_word _ c 0 4).trans BitVec.extractLsb'_append_eq_right

@[simp] theorem Tval.high_append (b a : Word) : Tval.high (b ++ a) = b := BitVec.extractLsb'_append_eq_left
@[simp] theorem Tval.low_append (b a : Word) : Tval.low (b ++ a) = a := BitVec.extractLsb'_append_eq_right

theorem Tval.high_append_low (t : Tval) : t.high ++ t.low = t := by
  rw [Tval.high, Tval.low, BitVec.extractLsb'_append_extractLsb'_eq_extractLsb' (by rfl)]
  exact BitVec.extractLsb'_eq_self

@[simp] theorem t_assembleFields (op : BitVec 4) (sel : Sel) (c : Word) (t : Tval) :
    (assembleFields op sel c t.high t.low).t = t := by
  rw [Command.t, b_assembleFields, a_assembleFields, Tval.high_append_low]

/-- A command word is its five fields, with no bit left over (30_encoding.md R81). -/
theorem assembleFields_fields (w : Command) : assembleFields w.op w.sel w.c w.b w.a = w := by
  simp only [assembleFields, Command.op, Command.sel, Command.c, Command.b, Command.a,
    BitVec.extractLsb'_append_extractLsb'_eq_extractLsb']
  exact BitVec.extractLsb'_eq_self

/-! A word under a mask -/

theorem and_eq_assembleFields (w m : Command) :
    w &&& m = assembleFields (w.op &&& m.op) (w.sel &&& m.sel) (w.c &&& m.c) (w.b &&& m.b) (w.a &&& m.a) := by
  simp only [Command.op, Command.sel, Command.c, Command.b, Command.a, ← BitVec.extractLsb'_and]
  exact (assembleFields_fields _).symm

theorem and_sel_ones (sel : Sel) : sel &&& 15#4 = sel := BitVec.and_allOnes
theorem and_word_ones (w : Word) : w &&& 65535#16 = w := BitVec.and_allOnes

/-- The opcode is among the bits read, whatever the command (30_encoding.md R83). -/
@[simp] theorem op_and_readBits (w : Command) (op : BitVec 4) : (w &&& readBits op).op = w.op := by
  have hmask : (readBits op).op = .allOnes 4 := by
    revert op
    decide
  calc (w &&& readBits op).op = w.op &&& (readBits op).op := BitVec.extractLsb'_and
    _ = w.op := by rw [hmask, BitVec.and_allOnes]

/-- The mask of R83 leaves the opcode in bits 55:52 and zero below (30_encoding.md R83). -/
theorem and_opMask (w : Command) : w &&& 0xF0000000000000 = w.op.setWidth 56 <<< 52 := by
  have hop (op : BitVec 4) : assembleFields op 0 0 0 0 = op.setWidth 56 <<< 52 := by
    revert op
    decide
  rw [and_eq_assembleFields, ← hop]
  generalize w.op = op, w.sel = sel, w.c = c, w.b = b, w.a = a
  simp [Command.op, Command.sel, Command.c, Command.b, Command.a, and_sel_ones]

/-! The `sel` field of SETALRT (30_encoding.md R91) -/

@[simp] theorem alertSel_getElem (sel : Sel) : alertSel sel[3] sel[2] sel[1] sel[0] = sel := by
  revert sel
  decide

theorem getElem_alertSel (enabled select polarity mode : Bool) :
    let sel := alertSel enabled select polarity mode
    sel[3] = enabled ∧ sel[2] = select ∧ sel[1] = polarity ∧ sel[0] = mode := by
  revert enabled select polarity mode
  decide

/-! Decoder and encoder -/

/-- Settles O1, command by command: the decoder finds each field where the encoder put it. -/
theorem decodeOfEncodeIsTheCommand : Obligations.DecodeOfEncodeIsTheCommand := by
  intro i
  cases i with
  | setalrt enabled select polarity mode =>
    simpa [encode, decode, op_assembleFields] using getElem_alertSel enabled select polarity mode
  | _ => simp [encode, decode, op_assembleFields]

/-- Encoding the command a word selects keeps the fields it reads and zeroes the others (30_encoding.md R82, R91):
opcode by opcode, whatever the fields hold. -/
theorem encode_decode (w : Command) : encode (decode w) = w &&& readBits w.op := by
  rw [and_eq_assembleFields, decode, Command.t]
  generalize w.sel = sel, w.c = c, w.b = b, w.a = a
  obtain ⟨⟨op, hop⟩⟩ := w.op
  change op < 16 at hop
  interval_cases op <;>
    simp [encode, readBits, Command.op, Command.sel, Command.c, Command.b, Command.a, and_sel_ones, and_word_ones]

theorem op_encode (i : Instr) : (encode i).op = i.opcode := by
  cases i <;> exact op_assembleFields ..

/-- A word selects the command with its own opcode (30_encoding.md R83). -/
theorem opcode_decode (w : Command) : (decode w).opcode = w.op := by
  rw [← op_encode, encode_decode, op_and_readBits]

/-- The encoder is injective, so two words with the same bits read are the same command. -/
theorem decode_eq_of_readBits {w w' : Command} (h : w &&& readBits w.op = w' &&& readBits w.op) :
    decode w = decode w' := by
  have hop : w.op = w'.op := by simpa using congrArg Command.op h
  have hencode : encode (decode w) = encode (decode w') := by rw [encode_decode, encode_decode, h, hop]
  rw [← decodeOfEncodeIsTheCommand (decode w), hencode, decodeOfEncodeIsTheCommand]

/-- Settles O2: the second part follows from the first by O1. -/
theorem decoderReadsOnlyListedFields : Obligations.DecoderReadsOnlyListedFields :=
  ⟨encode_decode, fun _ _ => decode_eq_of_readBits⟩

/-- Settles O3: what the mask leaves is the opcode of the command selected. -/
theorem opcodeSelectsTheCommand : Obligations.OpcodeSelectsTheCommand := by
  intro w
  rw [opcode_decode, and_opMask]

/-! The reserved opcodes -/

theorem Instr.eq_reservedE_of_opcode {i : Instr} (h : i.opcode = 0xE) : i = .reservedE := by
  cases i <;> simp [Instr.opcode] at h ⊢

theorem Instr.eq_reservedF_of_opcode {i : Instr} (h : i.opcode = 0xF) : i = .reservedF := by
  cases i <;> simp [Instr.opcode] at h ⊢

/-- A command whose check phase raises an error ends there (60_exceptions.md R176). -/
theorem answered_checkPhase_raise {s : State} (h : s.NoResetThrough 0) (kind : CommandError) :
    Answered s (checkPhase (raise kind) s) (.error kind) := by
  rw [checkPhase, endPhase_of_noReset (h 0 (Nat.le_refl 0)), raise_startCheck]
  exact s.finished_finish ..

/-- Settles O5: the check phase of both commands raises, and the opcode decides which words select them. -/
theorem reservedOpcodesAnswerInvalidCommand : Obligations.ReservedOpcodesAnswerInvalidCommand := by
  refine ⟨fun s h => ⟨_, rfl, answered_checkPhase_raise h _⟩, fun s h => ⟨_, rfl, answered_checkPhase_raise h _⟩,
    fun w h => Instr.eq_reservedE_of_opcode ((opcode_decode w).trans h),
    fun w h => Instr.eq_reservedF_of_opcode ((opcode_decode w).trans h), fun w h => ?_, rfl, rfl⟩
  replace h : (decode w).opcode.toNat ≤ 0xD := (opcode_decode w).symm ▸ h
  constructor <;> intro hi <;> simp [hi, Instr.opcode] at h

/-! The function names -/

/-- The resolution of code `k` is 0.5 °C halved `k` times (10_state.md R30; log 13). -/
theorem resolutionCode_eq_some_iff (c : Tval) (code : Sel) :
    resolutionCode c = some code ↔ code.toNat ≤ 3 ∧ c.toNat * 2 ^ code.toNat = 0x8000 := by
  constructor
  · intro h
    unfold resolutionCode at h
    split_ifs at h <;> cases h <;> subst c <;> decide
  · rintro ⟨hcode, hc⟩
    have hpos : 0 < 2 ^ code.toNat := Nat.two_pow_pos _
    obtain rfl | rfl | rfl | rfl : code = 0 ∨ code = 1 ∨ code = 2 ∨ code = 3 := by bv_omega
    · obtain rfl : c = 0x8000 := BitVec.eq_of_toNat_eq (Nat.eq_of_mul_eq_mul_right hpos hc)
      rfl
    · obtain rfl : c = 0x4000 := BitVec.eq_of_toNat_eq (Nat.eq_of_mul_eq_mul_right hpos hc)
      rfl
    · obtain rfl : c = 0x2000 := BitVec.eq_of_toNat_eq (Nat.eq_of_mul_eq_mul_right hpos hc)
      rfl
    · obtain rfl : c = 0x1000 := BitVec.eq_of_toNat_eq (Nat.eq_of_mul_eq_mul_right hpos hc)
      rfl

/-- The hysteresis of each code: 0, 1.5, 3 and 6 °C (10_state.md R31; log 13). -/
theorem hysteresisCode_eq_some_iff (c : Tval) (code : Sel) :
    hysteresisCode c = some code ↔ (code = 0 ∧ c.toNat = 0) ∨ (code = 1 ∧ c.toNat = 0x18000) ∨
      (code = 2 ∧ c.toNat = 0x30000) ∨ (code = 3 ∧ c.toNat = 0x60000) := by
  constructor
  · intro h
    unfold hysteresisCode at h
    split_ifs at h <;> cases h <;> subst c <;> decide
  · rintro (⟨rfl, hc⟩ | ⟨rfl, hc⟩ | ⟨rfl, hc⟩ | ⟨rfl, hc⟩)
    · obtain rfl : c = 0 := BitVec.eq_of_toNat_eq hc
      rfl
    · obtain rfl : c = 0x18000 := BitVec.eq_of_toNat_eq hc
      rfl
    · obtain rfl : c = 0x30000 := BitVec.eq_of_toNat_eq hc
      rfl
    · obtain rfl : c = 0x60000 := BitVec.eq_of_toNat_eq hc
      rfl

theorem toNat_le_of_hysteresisCode {c : Tval} {code : Sel} (h : hysteresisCode c = some code) : code.toNat ≤ 3 := by
  obtain ⟨rfl, -⟩ | ⟨rfl, -⟩ | ⟨rfl, -⟩ | ⟨rfl, -⟩ := (hysteresisCode_eq_some_iff c code).mp h <;> decide

/-- A function name expands to a command the assembler may write (30_encoding.md R85 b, R92). -/
theorem wellFormed_of_expand {f : FunctionCall} {i : Instr} (h : f.expand = some i) : WellFormed i = true := by
  cases f with
  | setResolution celsius =>
    obtain ⟨code, hcode, rfl⟩ := Option.map_eq_some_iff.mp h
    exact decide_eq_true ((resolutionCode_eq_some_iff celsius code).mp hcode).1
  | setHysteresis celsius =>
    obtain ⟨code, hcode, rfl⟩ := Option.map_eq_some_iff.mp h
    exact decide_eq_true (toNat_le_of_hysteresisCode hcode)
  | setThreshold which value => cases h; cases which <;> rfl
  | setShutdown flag => cases h; cases flag <;> rfl
  | setCriticalLock flag => cases h; cases flag <;> rfl
  | setWindowLock flag => cases h; cases flag <;> rfl
  | _ => cases h; rfl

/-- Settles O6: legality by `wellFormed_of_expand`, resolution and hysteresis by their tables. -/
theorem functionNamesExpandToLegalCommands : Obligations.FunctionNamesExpandToLegalCommands := by
  refine ⟨fun f i => wellFormed_of_expand, fun _ => rfl, fun _ => rfl, fun _ _ _ _ => rfl, fun _ _ _ => rfl, rfl,
    fun _ => ⟨rfl, rfl, rfl⟩, fun c i => ?_, fun c i => ?_, ⟨rfl, rfl⟩, ⟨rfl, rfl⟩, ⟨rfl, rfl⟩,
    fun enabled select polarity mode => ?_, rfl, rfl⟩
  · simp only [FunctionCall.expand, Option.map_eq_some_iff, resolutionCode_eq_some_iff, and_comm, eq_comm (a := i)]
  · simp only [FunctionCall.expand, Option.map_eq_some_iff, hysteresisCode_eq_some_iff, or_and_right, exists_or,
      and_assoc, exists_eq_left]
    simp only [and_comm, eq_comm (a := i)]
  · cases select <;> cases polarity <;> cases mode <;> rfl

/-! Responses -/

/-- Settles O41, by the response. -/
theorem responseDataOnlyWhenOk : Obligations.ResponseDataOnlyWhenOk := by
  refine ⟨fun r => ?_, fun d => rfl, fun p => rfl, fun t => rfl, fun sel => rfl, rfl⟩
  cases r with
  | ok data => simp [Response.data, Response.status, Status.code]
  | error kind => cases kind <;> simp [Response.data, Response.status, CommandError.status, Status.code]

end Sys2Proof
end

section
/-! How a command ends (30_encoding.md R86; 70_reset_and_hazards.md R190): in `State.finish`, with no response exactly
when a reset of the block meets it (`Ran.eq_finish_none_iff`). -/

namespace Sys2Proof.Machine

/-! When a reset of the block meets a command -/

theorem transactionCount_of_modifyOf {i : Instr} {modify : Word → Word} (h : modifyOf i = some modify) :
    transactionCount i = 2 := by
  cases i <;> simp_all [modifyOf, transactionCount]

section
variable {i : Instr} {s : State} (hr : s.resetAfter ≠ some 0)
include hr

theorem not_meetsReset_of_checkError {kind : CommandError} (h : checkError i = some kind) : ¬ MeetsReset i s := by
  have hi : ¬ PassesChecks i := by simp [← checkError_eq_none_iff, h]
  simp [MeetsReset, hr, hi]

theorem not_meetsReset_of_no_transaction (hcount : transactionCount i = 0) : ¬ MeetsReset i s := by
  simp [MeetsReset, hr, hcount]

theorem meetsReset_iff_of_one_transaction (h : checkError i = none) (hcount : transactionCount i = 1) :
    MeetsReset i s ↔ s.resetAfter = some 1 := by
  simp [MeetsReset, hr, (checkError_eq_none_iff i).mp h, hcount]

/-- A command of two transactions that the first, or a reset after it, ended. -/
theorem meetsReset_iff_of_first_of_two (h : checkError i = none) (hcount : transactionCount i = 2)
    (h0 : ¬ s.Succeeds 0 ∨ s.resetAfter = some 1) : MeetsReset i s ↔ s.resetAfter = some 1 := by
  have hi := (checkError_eq_none_iff i).mp h
  obtain h0 | h0 := h0 <;> simp [MeetsReset, hr, hi, hcount, h0]

/-- A command of two transactions that went on to the second. -/
theorem meetsReset_iff_of_second_of_two (h : checkError i = none) (hcount : transactionCount i = 2)
    (h0 : s.Succeeds 0) (h1 : s.resetAfter ≠ some 1) : MeetsReset i s ↔ s.resetAfter = some 2 := by
  have hi := (checkError_eq_none_iff i).mp h
  simp [MeetsReset, State.Succeeds, hr, hi, hcount, h0, h1]

end

/-! Commands -/

/-- However a command ends, it leaves an idle block, and no response exactly when a reset of the block meets it. -/
theorem Ran.eq_finish_none_iff {i : Instr} {s t : State} (h : Ran i s t) :
    ∃ n records sensor out, t = s.finish n records sensor out ∧ (out = none ↔ MeetsReset i s) := by
  have answers {phase : Nat} {r : Response} (hmeets : MeetsReset i s ↔ s.resetAfter = some phase) :
      s.answer phase r = none ↔ MeetsReset i s := by simp [State.answer, hmeets]
  cases h with
  | abandoned hr => exact ⟨_, _, _, _, rfl, by simp [MeetsReset, hr]⟩
  | refused hr kind h => exact ⟨_, _, _, _, rfl, by simp [not_meetsReset_of_checkError hr h]⟩
  | codec hr data h hd =>
    exact ⟨_, _, _, _, rfl, by simp [not_meetsReset_of_no_transaction hr (transactionCount_of_codecData hd)]⟩
  | temperature hr hi =>
    subst hi
    exact ⟨_, _, _, _, rfl, answers (meetsReset_iff_of_one_transaction hr rfl rfl)⟩
  | threshold hr which v hi h =>
    subst hi
    exact ⟨_, _, _, _, rfl, answers (meetsReset_iff_of_one_transaction hr h rfl)⟩
  | resolution hr code hi h =>
    subst hi
    exact ⟨_, _, _, _, rfl, answers (meetsReset_iff_of_one_transaction hr h rfl)⟩
  | alertFirst hr hi h0 =>
    subst hi
    exact ⟨_, _, _, _, rfl, answers (meetsReset_iff_of_first_of_two hr rfl rfl h0)⟩
  | alertSecond hr hi h0 h1 =>
    subst hi
    exact ⟨_, _, _, _, rfl, answers (meetsReset_iff_of_second_of_two hr rfl rfl h0 h1)⟩
  | modifyFirst hr modify hm h h0 =>
    have hcount := transactionCount_of_modifyOf hm
    exact ⟨_, _, _, _, rfl, answers (meetsReset_iff_of_first_of_two hr h hcount h0)⟩
  | modifySecond hr modify hm h h0 h1 =>
    have hcount := transactionCount_of_modifyOf hm
    exact ⟨_, _, _, _, rfl, answers (meetsReset_iff_of_second_of_two hr h hcount h0 h1)⟩

/-- Settles O42, from how a command ends. -/
theorem everyCommandEndsWithOneResponse : Obligations.EveryCommandEndsWithOneResponse := by
  intro i s
  obtain ⟨t, hexec, hran⟩ := exec_ran i s
  obtain ⟨n, records, sensor, out, rfl, hout⟩ := hran.eq_finish_none_iff
  refine ⟨_, hexec, rfl, fun hmeets => ?_, fun hmeets => ?_⟩
  · obtain ⟨r, rfl⟩ := Option.ne_none_iff_exists'.mp (mt hout.mp hmeets)
    exact ⟨r, rfl⟩
  · obtain rfl := hout.mpr hmeets
    rfl

/-! The step that runs a command -/

theorem step_of_command {s : State} {w : Command} {r : Option Nat} {rest : List Turn} (hidle : s.Idle)
    (h : s.turns = .command w r :: rest) : step s = exec (decode w) (acceptCommand w r s.takeTurn) := by
  simp [step, h, State.isIdle_of_idle hidle]

/-- Settles O50: the step runs the word's command, which ends with the block idle and takes no further turn. -/
theorem idleBlockAcceptsEveryWord : Obligations.IdleBlockAcceptsEveryWord := by
  intro s w r rest hidle hturns
  obtain ⟨t, hexec, hran⟩ := exec_ran (decode w) (acceptCommand w r s.takeTurn)
  obtain ⟨n, records, sensor, out, rfl, -⟩ := hran.eq_finish_none_iff
  exact ⟨_, (step_of_command hidle hturns).trans hexec, rfl, congrArg List.tail hturns, rfl⟩

end Sys2Proof.Machine
end

section
/-! The codec commands (40_codec.md R100 to R109). A command that meets no reset of the block answers what its check
phase decides; DECT is the sign extension of 13 bits (`dectCount_eq_toInt`), ENCT the 13-bit two's complement of a
truncated quotient (`enctWord_eq_ofInt`), PACKF and SELF are read bit by bit. -/

namespace Sys2Proof.Machine

/-! The check phase -/

/-- A command that answers in its check phase, where no reset of the block comes first (30_encoding.md R93). -/
theorem answered_checkPhase_respond {s : State} (h : s.NoResetThrough 0) (r : Response) :
    Answered s (checkPhase (respond r) s) r := by
  rw [checkPhase, endPhase_of_noReset (h 0 (Nat.le_refl 0)), respond_startCheck]
  exact s.finished_finish ..

/-- A TVAL in range passes the range check (40_codec.md R104). -/
theorem checkRange_of_inRange {t : Tval} (h : outOfRange t = false) (k : State → State) : checkRange t k = k := by
  funext s
  simp [checkRange, h]

/-- A TVAL out of range is refused (40_codec.md R104). -/
theorem checkRange_of_outOfRange {t : Tval} (h : outOfRange t = true) (k : State → State) :
    checkRange t k = raise (.rangeError t) := by
  funext s
  simp [checkRange, h]

theorem exec_enct_of_inRange {t : Tval} (h : outOfRange t = false) (s : State) :
    exec (.enct t) s = .next (checkPhase (respond (.ok (zext32 (enctWord t)))) s) := by
  rw [exec, execEnct, checkRange_of_inRange h]

theorem exec_enct_of_outOfRange {t : Tval} (h : outOfRange t = true) (s : State) :
    exec (.enct t) s = .next (checkPhase (raise (.rangeError t)) s) := by
  rw [exec, execEnct, checkRange_of_outOfRange h]

/-- SETTHR with a legal `which` comes to its range check (41_driver_temperature.md R123). -/
theorem exec_setthr_of_legal {which : Sel} (hwhich : which.toNat ≤ 2) (t : Tval) (s : State) :
    exec (.setthr which t) s = .next (checkPhase
      (checkRange t (memWriteWord (thresholdReg which) (enctWord t) (respond (.ok 0)))) s) := by
  have hlegal : legalThreshold which = true := decide_eq_true hwhich
  rw [exec, execSetthr, hlegal]
  rfl

/-- Settles O15, command by command: the response of ENCT is decided by the range of its operand. -/
theorem codecCommandsDependOnTheWordAlone : Obligations.CodecCommandsDependOnTheWordAlone := by
  intro i hi
  cases i with
  | dect raw13 => exact ⟨_, fun s h => ⟨_, rfl, answered_checkPhase_respond h _⟩⟩
  | packf current mask shift value => exact ⟨_, fun s h => ⟨_, rfl, answered_checkPhase_respond h _⟩⟩
  | self word mask shift => exact ⟨_, fun s h => ⟨_, rfl, answered_checkPhase_respond h _⟩⟩
  | enct t =>
    cases hrange : outOfRange t with
    | false => exact ⟨_, fun s h => ⟨_, exec_enct_of_inRange hrange s, answered_checkPhase_respond h _⟩⟩
    | true => exact ⟨_, fun s h => ⟨_, exec_enct_of_outOfRange hrange s, answered_checkPhase_raise h _⟩⟩
  | _ => simp [Instr.opcode] at hi

/-! The range of a TVAL -/

/-- A phase that ends in one response never ends in another. -/
theorem responses_endPhase_respond_ne {r r' : Response} (h : r ≠ r') (s : State) :
    (endPhase (respond r) s).responses ≠ r' :: s.responses := by
  refine endPhase_spec (fun u => u.responses ≠ r' :: s.responses) _ s (fun _ => ?_) (fun _ => ?_)
  · simp [h]
  · simp

/-- A write of SETTHR ends in OK or in `TransportError`, if in a response at all (20_memory.md R54). -/
theorem responses_memWriteWord_ne_rangeError (r : WordReg) (v : Word) (t : Tval) (s : State) :
    (memWriteWord r v (respond (.ok 0)) s).responses ≠ .error (.rangeError t) :: s.responses := by
  have hok : Response.ok 0 ≠ .error (.rangeError t) := nofun
  have hfailed : Response.error (.transportError r.pointer) ≠ .error (.rangeError t) := nofun
  exact memWriteWord_spec (fun u => u.responses ≠ .error (.rangeError t) :: s.responses) _ _ _ _
    (fun _ => responses_endPhase_respond_ne hok _) (fun _ => responses_endPhase_respond_ne hfailed _)
    (fun _ => responses_endPhase_respond_ne hfailed _) (fun _ _ => responses_endPhase_respond_ne hfailed _)

/-- Settles O9: out of range both commands are refused in the check phase; in range ENCT answers and SETTHR writes. -/
theorem rangeErrorExactlyOutsideTheBounds : Obligations.RangeErrorExactlyOutsideTheBounds := by
  intro t which s hwhich hreset
  have hsetthr := exec_setthr_of_legal hwhich t s
  refine ⟨fun hout => ?_, fun hin => ?_⟩
  · have hrange := (outOfRange_iff t).mpr hout
    rw [checkRange_of_outOfRange hrange] at hsetthr
    exact ⟨⟨_, exec_enct_of_outOfRange hrange s, answered_checkPhase_raise hreset _⟩,
      _, hsetthr, answered_checkPhase_raise hreset _⟩
  · have hrange : outOfRange t = false := Bool.eq_false_iff.mpr (mt (outOfRange_iff t).mp hin)
    rw [checkRange_of_inRange hrange, checkPhase, endPhase_of_noReset (hreset 0 (Nat.le_refl 0))] at hsetthr
    exact ⟨⟨_, _, exec_enct_of_inRange hrange s, answered_checkPhase_respond hreset _⟩,
      _, hsetthr, responses_memWriteWord_ne_rangeError _ _ t (startCheck s)⟩

/-! DECT -/

/-- An exclusive or with ones is the ones' complement. -/
theorem xor_ones_eq_sub {n m : Nat} (h : m < 2 ^ n) : m ^^^ (2 ^ n - 1) = 2 ^ n - 1 - m := by
  have hnot := congrArg BitVec.toNat (BitVec.xor_allOnes (x := BitVec.ofNatLT m h))
  rwa [BitVec.toNat_xor, BitVec.toNat_allOnes, BitVec.toNat_not, BitVec.toNat_ofNatLT] at hnot

/-- The sign bit of the low 13 bits is bit 12 (40_codec.md R101). -/
theorem msb_extractLsb'_thirteen (a : Word) : (a.extractLsb' 0 13).msb = a.getLsbD 12 := by
  simp [BitVec.msb_eq_getLsbD_last]

/-- The count of DECT is the 13-bit two's complement of the low bits (40_codec.md R102). -/
theorem dectCount_eq_toInt (a : Word) : dectCount a = (a.extractLsb' 0 13).toInt := by
  have hdata : (a &&& 0x0FFF).toNat = a.toNat % 2 ^ 12 := Nat.and_two_pow_sub_one_eq_mod a.toNat 12
  have hxor : ((a &&& 0x0FFF) ^^^ 0x0FFF).toNat = 2 ^ 12 - 1 - a.toNat % 2 ^ 12 := by
    rw [BitVec.toNat_xor, hdata]
    exact xor_ones_eq_sub (Nat.mod_lt _ (by decide))
  have hbit : a.getLsbD 12 = decide (a.toNat / 2 ^ 12 % 2 = 1) := Nat.testBit_eq_decide_div_mod_eq
  have hlow : (a.extractLsb' 0 13).toNat = a.toNat % 2 ^ 13 := by simp
  rw [BitVec.toInt_eq_msb_cond, msb_extractLsb'_thirteen, hlow]
  simp only [dectCount, hxor, hdata, hbit, decide_eq_true_eq]
  split <;> omega

/-- Copies of the sign bit above a value are its sign extension. -/
theorem fill_msb_append (x : BitVec 13) : BitVec.fill 7 x.msb ++ x = x.signExtend 20 := by
  rw [BitVec.signExtend_eq_append_of_le (by decide)]
  cases x.msb <;> rfl

/-- The response data of DECT, as R102 writes it out. -/
theorem fill_append_eq_ofInt (a : Word) :
    BitVec.fill 7 (a.getLsbD 12) ++ a.extractLsb' 0 13 ++ (0 : BitVec 12) =
      BitVec.ofInt 32 ((a.extractLsb' 0 13).toInt * 4096) := by
  have hsign : (BitVec.fill 7 (a.getLsbD 12) ++ a.extractLsb' 0 13).toInt = (a.extractLsb' 0 13).toInt := by
    rw [← msb_extractLsb'_thirteen, fill_msb_append, BitVec.toInt_signExtend_of_le (by decide)]
  rw [← hsign, mul_comm]
  exact (BitVec.ofInt_toInt.symm).trans (congrArg _ BitVec.toInt_append_zero)

/-- Settles O7, from the count of DECT. -/
theorem dectIsSignExtension : Obligations.DectIsSignExtension := by
  intro a
  have hdata : dectData a = BitVec.fill 7 (a.getLsbD 12) ++ a.extractLsb' 0 13 ++ (0 : BitVec 12) := by
    rw [fill_append_eq_ofInt, dectData, dectCount_eq_toInt]
  exact ⟨dectCount_eq_toInt a, fill_append_eq_ofInt a,
    fun s h => ⟨_, rfl, hdata ▸ answered_checkPhase_respond h _⟩⟩

/-! ENCT -/

/-- ENCT truncates the magnitude and gives it the sign of the value, which truncates toward zero (40_codec.md R103). -/
theorem tdiv_eq_enctMagnitude (t : Tval) :
    (traw t).tdiv 4096 = if traw t < 0 then -(enctMagnitude t : Int) else enctMagnitude t := by
  have hquotient : ((traw t).natAbs : Int).tdiv 4096 = enctMagnitude t := (Int.ofNat_tdiv _ 4096).symm
  split
  next hneg => rw [← hquotient, ← Int.neg_tdiv, Int.ofNat_natAbs_of_nonpos hneg.le, neg_neg]
  next hnonneg => rw [← hquotient, Int.natAbs_of_nonneg (not_lt.mp hnonneg)]

/-- ENCT's word of a TVAL in range: 13-bit two's complement, bits 15:13 zero (40_codec.md R103). -/
theorem enctWord_eq_ofInt {t : Tval} (h : outOfRange t = false) :
    enctWord t = (BitVec.ofInt 13 ((traw t).tdiv 4096)).setWidth 16 := by
  have hrange := (outOfRange_eq_false_iff t).mp h
  have hmagnitude : enctMagnitude t < 2 ^ 13 := by unfold enctMagnitude; omega
  have hxor : enctMagnitude t ^^^ 0x1FFF = 2 ^ 13 - 1 - enctMagnitude t := xor_ones_eq_sub hmagnitude
  apply BitVec.eq_of_toNat_eq
  rw [tdiv_eq_enctMagnitude, BitVec.toNat_setWidth_of_le (by decide), BitVec.toNat_ofInt]
  simp only [enctWord, hxor, BitVec.toNat_ofNat]
  split <;> omega

/-- Settles O8: ENCT answers its word, widened. -/
theorem enctTruncatesTowardZero : Obligations.EnctTruncatesTowardZero := by
  intro t s hlow hhigh hreset
  have hrange := (outOfRange_eq_false_iff t).mpr ⟨hlow, hhigh⟩
  have hdata : zext32 (enctWord t) = (BitVec.ofInt 13 (t.toInt.tdiv 4096)).setWidth 32 := by
    rw [zext32, enctWord_eq_ofInt hrange, BitVec.setWidth_setWidth (by decide), traw]
  exact ⟨_, exec_enct_of_inRange hrange s, hdata ▸ answered_checkPhase_respond hreset _⟩

/-! ENCT and DECT together (40_codec.md R105) -/

/-- DECT counts the sixteenths of a degree that ENCT encoded. -/
theorem dectCount_enctWord {t : Tval} (h : outOfRange t = false) : dectCount (enctWord t) = (traw t).tdiv 4096 := by
  have hrange := (outOfRange_eq_false_iff t).mp h
  have hbounds : -2 ^ 12 ≤ (traw t).tdiv 4096 ∧ (traw t).tdiv 4096 < 2 ^ 12 := by
    rw [tdiv_eq_enctMagnitude, enctMagnitude]
    split <;> omega
  have hlow : (enctWord t).extractLsb' 0 13 = BitVec.ofInt 13 ((traw t).tdiv 4096) := by
    rw [enctWord_eq_ofInt h]
    ext i hi
    simp [hi, show i < 16 by omega]
  rw [dectCount_eq_toInt, hlow]
  exact BitVec.toInt_ofInt_eq_self (by decide) hbounds.1 hbounds.2

theorem dectCount_bounds (a : Word) : -4096 ≤ dectCount a ∧ dectCount a ≤ 4095 := by
  rw [dectCount_eq_toInt]
  have hlow := BitVec.le_toInt (a.extractLsb' 0 13)
  have hhigh := BitVec.toInt_lt (x := a.extractLsb' 0 13)
  omega

/-- A 13-bit count of sixteenths of a degree, as a TVAL. -/
theorem traw_ofInt_count {k : Int} (hlow : -4096 ≤ k) (hhigh : k ≤ 4095) :
    traw (BitVec.ofInt 32 (k * 4096)) = k * 4096 :=
  BitVec.toInt_ofInt_eq_self (by decide) (by omega) (by omega)

theorem inRange_ofInt_count {k : Int} (hlow : -4096 ≤ k) (hhigh : k ≤ 4095) :
    outOfRange (BitVec.ofInt 32 (k * 4096)) = false := by
  rw [outOfRange_eq_false_iff, traw_ofInt_count hlow hhigh]
  omega

/-- ENCT of a whole count is that count in 13 bits. -/
theorem enctWord_ofInt_count {k : Int} (hlow : -4096 ≤ k) (hhigh : k ≤ 4095) :
    enctWord (BitVec.ofInt 32 (k * 4096)) = (BitVec.ofInt 13 k).setWidth 16 := by
  rw [enctWord_eq_ofInt (inRange_ofInt_count hlow hhigh), traw_ofInt_count hlow hhigh,
    Int.mul_tdiv_cancel k (by decide)]

/-- DECT after ENCT gives a TVAL in range back, truncated toward zero. -/
theorem dectData_enctWord {t : Tval} (h : outOfRange t = false) :
    dectData (enctWord t) = BitVec.ofInt 32 ((traw t).tdiv 4096 * 4096) := by
  rw [dectData, dectCount_enctWord h]

theorem toInt_dectData (a : Word) : (dectData a).toInt = dectCount a * 4096 :=
  traw_ofInt_count (dectCount_bounds a).1 (dectCount_bounds a).2

/-- ENCT after DECT gives the low 13 bits back. -/
theorem enctWord_dectData (p : Word) : enctWord (dectData p) = (p.extractLsb' 0 13).setWidth 16 := by
  rw [dectData, enctWord_ofInt_count (dectCount_bounds p).1 (dectCount_bounds p).2, dectCount_eq_toInt,
    BitVec.ofInt_toInt]

/-- Settles O10: DECT counts what ENCT encoded, and ENCT encodes what DECT counted. -/
theorem temperatureRoundTrips : Obligations.TemperatureRoundTrips := by
  refine ⟨fun k hlow hhigh => ⟨?_, ?_⟩, fun p hp => ?_, fun t ht => ?_⟩
  · rw [enctWord_ofInt_count hlow hhigh, BitVec.toNat_setWidth_of_le (by decide), BitVec.toNat_ofInt]
    rfl
  · rw [dectData_enctWord (inRange_ofInt_count hlow hhigh), traw_ofInt_count hlow hhigh,
      Int.mul_tdiv_cancel k (by decide)]
  · rw [enctWord_dectData]
    apply BitVec.eq_of_toNat_eq
    rw [BitVec.toNat_setWidth_of_le (by decide), BitVec.extractLsb'_toNat]
    exact Nat.mod_eq_of_lt hp
  · rw [toInt_dectData, dectCount_enctWord ht, traw]

/-! PACKF and SELF -/

/-- Settles O11, bit by bit. -/
theorem packfReplacesTheMaskedBits : Obligations.PackfReplacesTheMaskedBits := by
  intro current mask value shift s h
  exact ⟨_, _, rfl, answered_checkPhase_respond h _, rfl, fun i hi => getLsbD_packField _ _ _ _ hi⟩

/-- Settles O13, bit by bit. -/
theorem selfSelectsAndShifts : Obligations.SelfSelectsAndShifts := by
  intro word mask shift s h
  exact ⟨_, _, rfl, answered_checkPhase_respond h _, rfl, fun i => by rw [getLsbD_selectField, Nat.add_comm]⟩

/-- A packed word bit by bit, in terms of the shifted value (40_codec.md R106). -/
theorem getLsbD_packField_eq_ite (w m v : Word) (s : Sel) {i : Nat} (hi : i < 16) :
    (packField w m s v).getLsbD i = if m.getLsbD i then (v <<< s.toNat).getLsbD i else w.getLsbD i := by
  simp only [packField, BitVec.getLsbD_or, BitVec.getLsbD_and, BitVec.getLsbD_not, hi]
  cases m.getLsbD i <;> simp

/-- No bit is under both of two disjoint masks, so the order of the two packs does not matter (40_codec.md R107). -/
theorem packField_comm_of_disjoint {m m' : Word} (hdisjoint : m &&& m' = 0) (w v v' : Word) (s s' : Sel) :
    packField (packField w m s v) m' s' v' = packField (packField w m' s' v') m s v := by
  apply BitVec.eq_of_getLsbD_eq
  intro i hi
  have hnot : ¬(m.getLsbD i = true ∧ m'.getLsbD i = true) := by
    rw [← Bool.and_eq_true, ← BitVec.getLsbD_and, hdisjoint]
    simp
  simp only [getLsbD_packField_eq_ite _ _ _ _ hi]
  split_ifs with hm' hm
  · exact absurd ⟨hm, hm'⟩ hnot
  all_goals rfl

/-- Settles O12, bit by bit: a bit under the mask is the last value's, any other bit is kept. -/
theorem packFieldLaws : Obligations.PackFieldLaws := by
  intro w m m' v v' s s'
  refine ⟨?isolation, ?content, ?idempotence, ?lastWriteWins, fun h => packField_comm_of_disjoint h w v v' s s'⟩
  all_goals
    apply BitVec.eq_of_getLsbD_eq
    intro i hi
    simp only [BitVec.getLsbD_and, BitVec.getLsbD_not, getLsbD_packField_eq_ite _ _ _ _ hi]
    cases m.getLsbD i <;> simp

/-- The bits of a run of ones from bit `s` up (40_codec.md R109). -/
theorem getLsbD_of_run {m : Word} {n s : Nat} (hm : m.toNat = (2 ^ n - 1) * 2 ^ s) (i : Nat) :
    m.getLsbD i = (decide (s ≤ i) && decide (i - s < n)) := by
  rw [BitVec.getLsbD, hm, Nat.testBit_mul_two_pow, Nat.testBit_two_pow_sub_one]

/-- Selecting the field just packed gives a value that fits it back (40_codec.md R109). -/
theorem selectField_packField {n : Nat} {s : Sel} {m : Word} (hfits : s.toNat + n ≤ 16)
    (hm : m.toNat = (2 ^ n - 1) * 2 ^ s.toNat) (w : Word) {v : Word} (hv : v.toNat < 2 ^ n) :
    selectField (packField w m s v) m s = v := by
  apply BitVec.eq_of_getLsbD_eq
  intro i _
  rw [getLsbD_selectField, getLsbD_of_run hm]
  by_cases hi : i < n
  · rw [getLsbD_packField _ _ _ _ (by omega), getLsbD_of_run hm]
    simp [hi]
  · have hlt : v.toNat < 2 ^ i := hv.trans_le (Nat.pow_le_pow_right (by decide) (not_lt.mp hi))
    simp [hi, show v.getLsbD i = false from Nat.testBit_lt_two_pow hlt]

/-- Packing the field just selected changes nothing (40_codec.md R109). -/
theorem packField_selectField {n : Nat} {s : Sel} {m : Word} (hm : m.toNat = (2 ^ n - 1) * 2 ^ s.toNat) (w : Word) :
    packField w m s (selectField w m s) = w := by
  apply BitVec.eq_of_getLsbD_eq
  intro i hi
  rw [getLsbD_packField _ _ _ _ hi, getLsbD_selectField]
  cases hbit : m.getLsbD i with
  | false => simp
  | true =>
    have hrun : s.toNat ≤ i ∧ i - s.toNat < n := by simpa [getLsbD_of_run hm] using hbit
    simp [hrun.1, hbit]

/-- Settles O14: the two inverses on every run, and the fields as they stand in the tables. -/
theorem packAndSelectAreInverse : Obligations.PackAndSelectAreInverse := by
  refine ⟨fun n s m w v _ hfits hm => ⟨selectField_packField hfits hm w, packField_selectField hm w⟩,
    fun f hf => ?_⟩
  have hfields : ∀ f ∈ configFields ++ tambientFields, ∃ n ≤ 16, 1 ≤ n ∧ f.shift.toNat + n ≤ 16 ∧
      f.mask.toNat = (2 ^ n - 1) * 2 ^ f.shift.toNat := by decide
  obtain ⟨n, -, hn⟩ := hfields f hf
  exact ⟨n, hn⟩

end Sys2Proof.Machine
end

section
/-! The driver commands of one transaction: RDTEMP, SETTHR and SETRES (41_driver_temperature.md R120 to R124). Where no
reset of the block comes, the check phase raises or the one transaction ends the command, and its fate decides how
(`finished_memReadWord_succeeds` and the lemmas beside it). -/

namespace Sys2Proof.Machine

/-! The check phase -/

/-- A legal `sel` passes its check (30_encoding.md R85 b). -/
theorem checkSel_true (sel : Sel) (k : State → State) : checkSel true sel k = k := rfl

/-- An illegal `sel` is refused (30_encoding.md R85 b). -/
theorem checkSel_false (sel : Sel) (k : State → State) :
    checkSel false sel k = raise (.invalidConfiguration sel) := rfl

theorem checkPhase_of_noReset {s : State} {n : Nat} (h : s.NoResetThrough n) (k : State → State) :
    checkPhase k s = k (startCheck s) :=
  endPhase_of_noReset (h 0 (Nat.zero_le n)) k

/-! A failed access (20_memory.md R51, R64) -/

theorem memReadWord_fails {s : State} {stored : Bool} (h : s.Fails 0 stored) (r : WordReg)
    (k : Word → State → State) :
    memReadWord r k s =
      endPhase (raise (.transportError r.pointer)) ((enterPhase s).arrive.record (.rd16 r.pointer none)) := by
  simp [memReadWord, rawReadWord, h, afterReply]

/-- A write that stored nothing leaves the sensor that the transaction met. -/
theorem arrive_withSensor_sensorAtNext (s : State) :
    (enterPhase s).arrive.withSensor s.sensorAtNext = (enterPhase s).arrive := rfl

theorem memWriteWord_fails {s : State} {stored : Bool} (h : s.Fails 0 stored) (r : WordReg) (v : Word)
    (k : State → State) :
    memWriteWord r v k s = endPhase (raise (.transportError r.pointer))
      (((enterPhase s).arrive.withSensor
          (if stored then s.sensorAtNext.storeWord s.platform.sensorWrite r v else s.sensorAtNext)).record
        (.wr16 r.pointer (swap16 v) false)) := by
  cases stored <;> simp [memWriteWord, rawWriteWord, h, afterReply, arrive_withSensor_sensorAtNext]

theorem memWriteByte_fails {s : State} {stored : Bool} (h : s.Fails 0 stored) (v : Byte) (k : State → State) :
    memWriteByte v k s = endPhase (raise (.transportError resolutionPointer))
      (((enterPhase s).arrive.withSensor
          (if stored then s.sensorAtNext.storeByte s.platform.sensorWrite v else s.sensorAtNext)).record
        (.wr8 resolutionPointer v false)) := by
  cases stored <;> simp [memWriteByte, rawWriteByte, h, afterReply, arrive_withSensor_sensorAtNext]

/-! A command of one transaction, where no reset of the block comes -/

section
variable {s : State} (hreset : s.NoResetThrough 1)
include hreset

/-- The command answers at the end of phase 1, after the transaction `op` that left the sensor `x`. -/
theorem finished_endPhase_first (op : BusOp) (x : Sensor) (r : Response) :
    Finished s (endPhase (respond r) (((enterPhase (startCheck s)).arrive.withSensor x).record op)) 1 [s.seen 1 op] x
      r := by
  rw [endPhase_of_noReset (hreset 1 (Nat.le_refl 1))]
  exact ⟨rfl, rfl, rfl, rfl, List.drop_one.symm, rfl, rfl, rfl, rfl⟩

theorem finished_memReadWord_succeeds (h : s.Succeeds 0) (r : WordReg) (f : Word → Response) :
    Finished s (checkPhase (memReadWord r fun w => respond (f w)) s) 1
      [s.seen 1 (.rd16 r.pointer (some (swap16 ((s.moved 0 s.sensor).word r))))] (s.moved 0 s.sensor)
      (f ((s.moved 0 s.sensor).word r)) := by
  rw [checkPhase_of_noReset hreset, memReadWord_succeeds (s := startCheck s) h]
  exact finished_endPhase_first hreset _ _ _

theorem finished_memReadWord_fails {stored : Bool} (h : s.Fails 0 stored) (r : WordReg) (k : Word → State → State) :
    Finished s (checkPhase (memReadWord r k) s) 1 [s.seen 1 (.rd16 r.pointer none)] (s.moved 0 s.sensor)
      (.error (.transportError r.pointer)) := by
  rw [checkPhase_of_noReset hreset, memReadWord_fails (s := startCheck s) h]
  exact finished_endPhase_first hreset _ _ _

theorem finished_memWriteWord_succeeds (h : s.Succeeds 0) (r : WordReg) (v : Word) (ok : Response) :
    Finished s (checkPhase (memWriteWord r v (respond ok)) s) 1 [s.seen 1 (.wr16 r.pointer (swap16 v) true)]
      ((s.moved 0 s.sensor).storeWord s.platform.sensorWrite r v) ok := by
  rw [checkPhase_of_noReset hreset, memWriteWord_succeeds (s := startCheck s) h]
  exact finished_endPhase_first hreset _ _ _

theorem finished_memWriteWord_fails {stored : Bool} (h : s.Fails 0 stored) (r : WordReg) (v : Word)
    (k : State → State) :
    Finished s (checkPhase (memWriteWord r v k) s) 1 [s.seen 1 (.wr16 r.pointer (swap16 v) false)]
      (if stored then (s.moved 0 s.sensor).storeWord s.platform.sensorWrite r v else s.moved 0 s.sensor)
      (.error (.transportError r.pointer)) := by
  rw [checkPhase_of_noReset hreset, memWriteWord_fails (s := startCheck s) h]
  exact finished_endPhase_first hreset _ _ _

theorem finished_memWriteByte_succeeds (h : s.Succeeds 0) (v : Byte) (ok : Response) :
    Finished s (checkPhase (memWriteByte v (respond ok)) s) 1 [s.seen 1 (.wr8 resolutionPointer v true)]
      ((s.moved 0 s.sensor).storeByte s.platform.sensorWrite v) ok := by
  rw [checkPhase_of_noReset hreset, memWriteByte_succeeds (s := startCheck s) h]
  exact finished_endPhase_first hreset _ _ _

theorem finished_memWriteByte_fails {stored : Bool} (h : s.Fails 0 stored) (v : Byte) (k : State → State) :
    Finished s (checkPhase (memWriteByte v k) s) 1 [s.seen 1 (.wr8 resolutionPointer v false)]
      (if stored then (s.moved 0 s.sensor).storeByte s.platform.sensorWrite v else s.moved 0 s.sensor)
      (.error (.transportError resolutionPointer)) := by
  rw [checkPhase_of_noReset hreset, memWriteByte_fails (s := startCheck s) h]
  exact finished_endPhase_first hreset _ _ _

end

/-! RDTEMP -/

/-- Masking off the alert bits leaves the 13 bits that DECT reads (41_driver_temperature.md R121). -/
theorem dectData_and_mask (w : Word) :
    dectData (w &&& 0x1FFF) = BitVec.ofInt 32 ((w.extractLsb' 0 13).toInt * 4096) := by
  have hlow : (w &&& 0x1FFF).extractLsb' 0 13 = w.extractLsb' 0 13 := by
    rw [BitVec.extractLsb'_and]
    exact BitVec.and_allOnes
  rw [dectData, dectCount_eq_toInt, hlow]

/-- Settles O22: the one read ends RDTEMP, and its word is decoded. -/
theorem rdtempAnswersTheTemperature : Obligations.RdtempAnswersTheTemperature := by
  intro s hreset
  refine ⟨fun h => ⟨_, rfl, ?_⟩, fun stored h => ⟨_, rfl, finished_memReadWord_fails hreset h .tambient _⟩⟩
  rw [← dectData_and_mask]
  exact finished_memReadWord_succeeds hreset h .tambient fun w => .ok (dectData (w &&& 0x1FFF))

/-! SETTHR -/

theorem exec_setthr_of_illegal {which : Sel} (h : 3 ≤ which.toNat) (t : Tval) (s : State) :
    exec (.setthr which t) s = .next (checkPhase (raise (.invalidConfiguration which)) s) := by
  have hillegal : legalThreshold which = false := decide_eq_false (by omega)
  rw [exec, execSetthr, hillegal, checkSel_false]

theorem exec_setthr_of_inRange {which : Sel} (hwhich : which.toNat ≤ 2) {t : Tval} (h : outOfRange t = false)
    (s : State) :
    exec (.setthr which t) s =
      .next (checkPhase (memWriteWord (thresholdReg which) (enctWord t) (respond (.ok 0))) s) := by
  rw [exec_setthr_of_legal hwhich, checkRange_of_inRange h]

/-- Where a write takes, a threshold register holds the whole word written (10_state.md R38;
70_reset_and_hazards.md R208). -/
theorem word_storeWord_thresholdReg {x : Sensor} {how : SensorWrite} (h : x.TakesWrites how) (which : Sel) (v : Word) :
    (x.storeWord how (thresholdReg which) v).word (thresholdReg which) = v := by
  have hreg : thresholdReg which = .tupper ∨ thresholdReg which = .tlower ∨ thresholdReg which = .tcrit := by
    unfold thresholdReg
    split_ifs <;> simp
  rw [Sensor.word_storeWord, sensorWrite_of_takesWrites h, defaultWrite_threshold hreg]

/-- Settles O23: SETTHR passes both checks, and its one write ends it. -/
theorem setthrWritesTheThreshold : Obligations.SetthrWritesTheThreshold := by
  intro which v s hwhich hlow hhigh hreset h
  have hrange := (outOfRange_eq_false_iff v).mpr ⟨hlow, hhigh⟩
  have hpointer := thresholdReg_pointer (decide_eq_true hwhich)
  have hfinished := finished_memWriteWord_succeeds hreset h (thresholdReg which) (enctWord v) (.ok 0)
  refine ⟨_, _, _, exec_setthr_of_inRange hwhich hrange s, hpointer, enctWord_eq_ofInt hrange, hpointer ▸ hfinished,
    fun htakes => ?_⟩
  rw [hfinished.sensor]
  exact word_storeWord_thresholdReg htakes which (enctWord v)

/-- Settles O24, in the order of R123: the check of `which`, the check of the TVAL, the write. -/
theorem setthrErrorsInOrder : Obligations.SetthrErrorsInOrder := by
  intro which v s
  refine ⟨fun hwhich hreset => ?_, fun hwhich hout hreset => ?_, fun hwhich hlow hhigh hreset stored h => ?_⟩
  · exact ⟨_, exec_setthr_of_illegal hwhich v s, answered_checkPhase_raise hreset _⟩
  · have hexec := exec_setthr_of_legal hwhich v s
    rw [checkRange_of_outOfRange ((outOfRange_iff v).mpr hout)] at hexec
    exact ⟨_, hexec, answered_checkPhase_raise hreset _⟩
  · have hrange := (outOfRange_eq_false_iff v).mpr ⟨hlow, hhigh⟩
    have hpointer := thresholdReg_pointer (decide_eq_true hwhich)
    exact ⟨_, _, _, exec_setthr_of_inRange hwhich hrange s, hpointer, enctWord_eq_ofInt hrange,
      hpointer ▸ finished_memWriteWord_fails hreset h (thresholdReg which) (enctWord v) _⟩

/-! SETRES -/

/-- A legal code is the byte SETRES writes: its bits 7:2 are zero (41_driver_temperature.md R124). -/
theorem setWidth_extractLsb'_of_legal {code : Sel} (h : code.toNat ≤ 3) :
    (code.extractLsb' 0 2).setWidth 8 = code.setWidth 8 := by
  apply BitVec.eq_of_toNat_eq
  rw [BitVec.toNat_setWidth_of_le (by decide), BitVec.toNat_setWidth_of_le (by decide), BitVec.extractLsb'_toNat]
  exact Nat.mod_eq_of_lt (Nat.lt_succ_of_le h)

theorem exec_setres_of_legal {code : Sel} (h : code.toNat ≤ 3) (s : State) :
    exec (.setres code) s = .next (checkPhase (memWriteByte (code.setWidth 8) (respond (.ok 0))) s) := by
  have hlegal : legalCode code = true := decide_eq_true h
  rw [exec, execSetres, hlegal, checkSel_true, setWidth_extractLsb'_of_legal h]

theorem exec_setres_of_illegal {code : Sel} (h : 3 < code.toNat) (s : State) :
    exec (.setres code) s = .next (checkPhase (raise (.invalidConfiguration code)) s) := by
  have hillegal : legalCode code = false := decide_eq_false (by omega)
  rw [exec, execSetres, hillegal, checkSel_false]

/-- Settles O25: an illegal code is refused in the check phase, a legal one is written and the write ends SETRES. -/
theorem setresWritesTheWholeByte : Obligations.SetresWritesTheWholeByte := by
  intro code s
  refine ⟨fun hcode hreset h => ?_, fun hcode hreset => ?_, fun hcode hreset stored h => ?_⟩
  · have hfinished := finished_memWriteByte_succeeds hreset h (code.setWidth 8) (.ok 0)
    refine ⟨_, exec_setres_of_legal hcode s, hfinished, fun htakes => ?_⟩
    rw [hfinished.sensor, Sensor.resolution_storeByte, sensorWriteByte_of_takesWrites htakes]
  · exact ⟨_, exec_setres_of_illegal hcode s, answered_checkPhase_raise hreset _⟩
  · exact ⟨_, exec_setres_of_legal hcode s, finished_memWriteByte_fails hreset h _ _⟩

end Sys2Proof.Machine
end

section
/-! The lock bits (10_state.md R32, R38, R40; 42_driver_config.md R150): every write, every step of the sensor and every
transaction of another master keeps a lock bit that is set, so a command keeps it (`Ran.locksKept`), so a step does
(`step_locksKept`), so a run does. -/

namespace Sys2Proof.Machine

/-! `LocksKept` -/

theorem LocksKept.refl (x : Sensor) : LocksKept x x := ⟨id, id⟩

theorem LocksKept.trans {x y z : Sensor} (hxy : LocksKept x y) (hyz : LocksKept y z) : LocksKept x z :=
  ⟨hyz.win ∘ hxy.win, hyz.crit ∘ hxy.crit⟩

/-- The lock bits are CONFIG[6] and CONFIG[7] (10_state.md R32). -/
theorem locksKept_of_lock_bits_eq {x y : Sensor} (h6 : y.config.getLsbD 6 = x.config.getLsbD 6)
    (h7 : y.config.getLsbD 7 = x.config.getLsbD 7) : LocksKept x y := ⟨h6.trans, h7.trans⟩

theorem locksKept_of_config_eq {x y : Sensor} (h : y.config = x.config) : LocksKept x y :=
  locksKept_of_lock_bits_eq (by rw [h]) (by rw [h])

/-! What happens to the sensor -/

theorem locksKept_storeWord (x : Sensor) (how : SensorWrite) (r : WordReg) (v : Word) :
    LocksKept x (x.storeWord how r v) := by
  cases r with
  | config => exact locksKept_storeWord_config x how v
  | tupper => exact locksKept_of_config_eq rfl
  | tlower => exact locksKept_of_config_eq rfl
  | tcrit => exact locksKept_of_config_eq rfl
  | tambient => exact locksKept_of_config_eq rfl

theorem locksKept_storeByte (x : Sensor) (how : SensorWrite) (v : Byte) : LocksKept x (x.storeByte how v) :=
  locksKept_of_config_eq rfl

/-- No step of the sensor's own touches CONFIG bit 6 or 7 (10_state.md R40). -/
theorem locksKept_sensorStep (a : SensorStep) (x : Sensor) : LocksKept x (sensorStep a x) := by
  cases a with
  | measure value => exact locksKept_of_config_eq rfl
  | alert active => exact locksKept_of_lock_bits_eq (getLsbD_config_alert active x 6) (getLsbD_config_alert active x 7)
  | intClrDone => exact locksKept_of_lock_bits_eq (getLsbD_config_intClrDone x 6) (getLsbD_config_intClrDone x 7)

theorem locksKept_masterTxn (how : SensorWrite) (txn : MasterTxn) (x : Sensor) : LocksKept x (masterTxn how txn x) := by
  cases txn with
  | readWord r => exact LocksKept.refl x
  | writeWord r value => exact locksKept_storeWord x how r value
  | readByte => exact LocksKept.refl x
  | writeByte value => exact locksKept_storeByte x how value

theorem locksKept_agentStep (platform : Platform) (x : Sensor) (a : AgentStep) :
    LocksKept x (agentStep platform x a) := by
  cases a with
  | sensor step => exact locksKept_sensorStep step x
  | master txn =>
    rw [agentStep]
    split
    · exact LocksKept.refl x
    · exact locksKept_masterTxn platform.sensorWrite txn x

theorem State.locksKept_moved (s : State) (k : Nat) (x : Sensor) : LocksKept x (s.moved k x) :=
  agentSteps_keeps (P := LocksKept x) (fun y a hy => hy.trans (locksKept_agentStep s.platform y a)) _ x
    (LocksKept.refl x)

/-! Transactions without a power-on reset -/

theorem Fate.locksKept_afterRead {fate : Fate} (h : fate.isPowerOnReset = false) (x : Sensor) :
    LocksKept x (fate.afterRead x) := by
  rw [Fate.afterRead_of_not_powerOnReset h]
  exact LocksKept.refl x

theorem Fate.locksKept_afterWrite {fate : Fate} (h : fate.isPowerOnReset = false) {old new : Sensor}
    (hnew : LocksKept old new) : LocksKept old (fate.afterWrite old new) := by
  obtain heq | heq := Fate.afterWrite_of_not_powerOnReset h old new <;> rw [heq]
  · exact LocksKept.refl old
  · exact hnew

/-! Commands -/

/-- A command of which no transaction meets a power-on reset keeps the locks, however it ends (42_driver_config.md
R150). -/
theorem Ran.locksKept {i : Instr} {s t : State} (h : Ran i s t)
    (hpower0 : (s.inputAt 0).fate.isPowerOnReset = false) (hpower1 : (s.inputAt 1).fate.isPowerOnReset = false) :
    LocksKept s.sensor t.sensor := by
  have hmoved0 := s.locksKept_moved 0 s.sensor
  have hmoved1 := hmoved0.trans (s.locksKept_moved 1 (s.moved 0 s.sensor))
  cases h with
  | abandoned hr => exact LocksKept.refl _
  | refused hr kind h => exact LocksKept.refl _
  | codec hr data h hd => exact LocksKept.refl _
  | temperature hr hi => exact hmoved0.trans (Fate.locksKept_afterRead hpower0 _)
  | threshold hr which v hi h => exact hmoved0.trans (Fate.locksKept_afterWrite hpower0 (locksKept_storeWord ..))
  | resolution hr code hi h => exact hmoved0.trans (Fate.locksKept_afterWrite hpower0 (locksKept_storeByte ..))
  | alertFirst hr hi h0 => exact hmoved0.trans (Fate.locksKept_afterRead hpower0 _)
  | alertSecond hr hi h0 h1 => exact hmoved1.trans (Fate.locksKept_afterRead hpower1 _)
  | modifyFirst hr modify hm h h0 => exact hmoved0.trans (Fate.locksKept_afterRead hpower0 _)
  | modifySecond hr modify hm h h0 h1 =>
    exact hmoved1.trans (Fate.locksKept_afterWrite hpower1 (locksKept_storeWord ..))

theorem State.inputAt_finish (s : State) (n : Nat) (records : List BusRecord) (x : Sensor) (out : Option Response)
    (k : Nat) : (s.finish n records x out).inputAt k = s.inputAt (n + k) := by
  simp [State.inputAt, State.finish, Nat.add_assoc]

/-- A command takes the inputs of at most two transactions (20_memory.md R60). -/
theorem Ran.eq_finish_le_two {i : Instr} {s t : State} (h : Ran i s t) :
    ∃ n ≤ 2, ∃ records sensor out, t = s.finish n records sensor out := by
  cases h with
  | abandoned hr => exact ⟨0, by decide, _, _, _, rfl⟩
  | refused hr kind h => exact ⟨0, by decide, _, _, _, rfl⟩
  | codec hr data h hd => exact ⟨0, by decide, _, _, _, rfl⟩
  | temperature hr hi => exact ⟨1, by decide, _, _, _, rfl⟩
  | threshold hr which v hi h => exact ⟨1, by decide, _, _, _, rfl⟩
  | resolution hr code hi h => exact ⟨1, by decide, _, _, _, rfl⟩
  | alertFirst hr hi h0 => exact ⟨1, by decide, _, _, _, rfl⟩
  | alertSecond hr hi h0 h1 => exact ⟨2, by decide, _, _, _, rfl⟩
  | modifyFirst hr modify hm h h0 => exact ⟨1, by decide, _, _, _, rfl⟩
  | modifySecond hr modify hm h h0 h1 => exact ⟨2, by decide, _, _, _, rfl⟩

/-! Steps and runs -/

/-- A step that takes a turn and at most two inputs leaves one step less without a power-on reset. -/
theorem State.NoPowerOnReset.of_step {s t : State} {n m : Nat} (h : s.NoPowerOnReset (n + 1)) (hm : m ≤ 2)
    (hturns : t.turns = s.turns.tail) (hinput : ∀ k, t.inputAt k = s.inputAt (m + k)) : t.NoPowerOnReset n where
  turns k hk turn hturn := by
    rw [hturns, List.getElem?_tail] at hturn
    exact h.turns (k + 1) (by omega) turn hturn
  transactions k hk := by
    rw [hinput]
    exact h.transactions (m + k) (by omega)

/-- One step keeps the locks, by the turn that comes next, and leaves the rest of the run without a power-on reset. -/
theorem step_locksKept {s t : State} {n : Nat} (hpower : s.NoPowerOnReset (n + 1)) (hstep : step s = .next t) :
    LocksKept s.sensor t.sensor ∧ t.NoPowerOnReset n := by
  have hsame {u : State} (hturns : u.turns = s.turns.tail) (hbus : u.bus = s.bus) : u.NoPowerOnReset n :=
    hpower.of_step (Nat.zero_le 2) hturns fun k => by rw [State.inputAt, State.inputAt, hbus, Nat.zero_add]
  obtain ⟨hturns, rfl⟩ | ⟨w, r, rest, -, -, hran⟩ | ⟨a, rest, -, rfl⟩ |
    ⟨p, q, rest, -, ⟨-, rfl⟩ | ⟨-, txn, -, rfl⟩⟩ | ⟨drawn, rest, hturns, -, rfl⟩ | ⟨rest, -, rfl⟩ := step_cases hstep
  · exact ⟨LocksKept.refl _, hsame (by rw [hturns, List.tail_nil]) rfl⟩
  · have hlocks := hran.locksKept (hpower.transactions 0 (by omega)) (hpower.transactions 1 (by omega))
    obtain ⟨m, hm, records, x, out, rfl⟩ := hran.eq_finish_le_two
    exact ⟨hlocks, hpower.of_step hm rfl fun k => State.inputAt_finish ..⟩
  · exact ⟨locksKept_sensorStep a s.sensor, hsame rfl rfl⟩
  · exact ⟨LocksKept.refl _, hsame rfl rfl⟩
  · exact ⟨locksKept_masterTxn s.platform.sensorWrite txn s.sensor, hsame rfl rfl⟩
  · have hturn : Turn.isPowerOnReset (.powerOnReset drawn) = false :=
      hpower.turns 0 n.succ_pos _ (by rw [hturns]; rfl)
    cases hturn
  · exact ⟨LocksKept.refl _, hsame rfl rfl⟩

/-- A run of a positive length is a step and the rest of the run. -/
theorem exists_of_run_succ {M : Host.Core} {n : Nat} {s t : M.State} (h : M.run (n + 1) s = .next t) :
    ∃ u, M.step s = .next u ∧ M.run n u = .next t := by
  rw [Host.Core.run] at h
  split at h
  next u hstep => exact ⟨u, hstep, h⟩
  next => cases h
  next => cases h

/-- Settles O36, by induction on the length of the run. -/
theorem locksStaySetWithoutPowerOnReset : Obligations.LocksStaySetWithoutPowerOnReset := by
  intro n
  induction n with
  | zero =>
    intro s t _ hrun
    cases hrun
    exact LocksKept.refl _
  | succ n ih =>
    intro s t hpower hrun
    obtain ⟨u, hstep, hrest⟩ := exists_of_run_succ (M := core) hrun
    obtain ⟨hlocks, hpower'⟩ := step_locksKept hpower hstep
    exact hlocks.trans (ih u t hpower' hrest)

end Sys2Proof.Machine
end

section
/-! The driver commands on CONFIG (42_driver_config.md R140 to R148), which issue two transactions. Where no reset of
the block comes, a successful first read leaves `State.readLatched`, from which the second transaction ends the command
(`runsReadModifyWrite_of_modifyOf`); what a read-modify-write makes of the word read is an equation per command. -/

namespace Sys2Proof.Machine

/-! A command of two transactions, where no reset of the block comes -/

theorem noResetThrough_of_le {s : State} {m n : Nat} (h : s.NoResetThrough n) (hle : m ≤ n) : s.NoResetThrough m :=
  fun k hk => h k (hk.trans hle)

/-- The state in which a command of two transactions goes on, its first having read `r` and the word being latched
(10_state.md R23). -/
def State.readLatched (s : State) (r : WordReg) : State :=
  latch ((s.moved 0 s.sensor).word r) ((enterPhase (startCheck s)).arrive.record
    (.rd16 r.pointer (some (swap16 ((s.moved 0 s.sensor).word r)))))

theorem State.inputAt_readLatched (s : State) (r : WordReg) (k : Nat) :
    (s.readLatched r).inputAt k = s.inputAt (k + 1) := by
  simp [State.readLatched]

theorem State.fate_readLatched (s : State) (r : WordReg) :
    ((s.readLatched r).inputAt 0).fate = (s.inputAt 1).fate := congrArg TxnInput.fate (s.inputAt_readLatched r 0)

theorem checkPhase_memReadWord_latch {s : State} (hreset : s.NoResetThrough 1) (h : s.Succeeds 0) (r : WordReg)
    (k : Word → State → State) :
    checkPhase (memReadWord r fun w s1 => k w (latch w s1)) s = k ((s.moved 0 s.sensor).word r) (s.readLatched r) := by
  rw [checkPhase_of_noReset hreset, memReadWord_succeeds (s := startCheck s) h]
  exact endPhase_of_noReset (hreset 1 (Nat.le_refl 1)) _

theorem State.sensorAtNext_readLatched (s : State) (r : WordReg) :
    (s.readLatched r).sensorAtNext = s.moved 1 (s.moved 0 s.sensor) := by
  rw [State.sensorAtNext, State.inputAt_readLatched]
  rfl

section
variable {s : State} (hreset : s.NoResetThrough 2)
include hreset

/-- The command answers at the end of phase 2, after the transaction `op` that left the sensor `x`. -/
theorem finished_endPhase_second (r : WordReg) (op : BusOp) (x : Sensor) (out : Response) :
    Finished s (endPhase (respond out) (((enterPhase (s.readLatched r)).arrive.withSensor x).record op)) 2
      [s.seen 2 op, s.seen 1 (.rd16 r.pointer (some (swap16 ((s.moved 0 s.sensor).word r))))] x out := by
  rw [endPhase_of_noReset (hreset 2 (Nat.le_refl 2))]
  exact ⟨rfl, rfl, rfl, rfl, tail_tail_eq_drop_two _, rfl, rfl, rfl, rfl⟩

theorem finished_second_memReadWord_fails {stored : Bool} (h : s.Fails 1 stored) (r q : WordReg)
    (k : Word → State → State) :
    Finished s (memReadWord q k (s.readLatched r)) 2
      [s.seen 2 (.rd16 q.pointer none),
        s.seen 1 (.rd16 r.pointer (some (swap16 ((s.moved 0 s.sensor).word r))))]
      (s.moved 1 (s.moved 0 s.sensor)) (.error (.transportError q.pointer)) := by
  rw [memReadWord_fails (s := s.readLatched r) ((s.fate_readLatched r).trans h)]
  exact s.sensorAtNext_readLatched r ▸ finished_endPhase_second hreset r _ _ _

theorem finished_second_memWriteWord_succeeds (h : s.Succeeds 1) (r q : WordReg) (v : Word) (ok : Response) :
    Finished s (memWriteWord q v (respond ok) (s.readLatched r)) 2
      [s.seen 2 (.wr16 q.pointer (swap16 v) true),
        s.seen 1 (.rd16 r.pointer (some (swap16 ((s.moved 0 s.sensor).word r))))]
      ((s.moved 1 (s.moved 0 s.sensor)).storeWord s.platform.sensorWrite q v) ok := by
  rw [memWriteWord_succeeds (s := s.readLatched r) ((s.fate_readLatched r).trans h), s.sensorAtNext_readLatched]
  exact finished_endPhase_second hreset r _ _ _

theorem finished_second_memWriteWord_fails {stored : Bool} (h : s.Fails 1 stored) (r q : WordReg) (v : Word)
    (k : State → State) :
    Finished s (memWriteWord q v k (s.readLatched r)) 2
      [s.seen 2 (.wr16 q.pointer (swap16 v) false),
        s.seen 1 (.rd16 r.pointer (some (swap16 ((s.moved 0 s.sensor).word r))))]
      (if stored then (s.moved 1 (s.moved 0 s.sensor)).storeWord s.platform.sensorWrite q v
        else s.moved 1 (s.moved 0 s.sensor))
      (.error (.transportError q.pointer)) := by
  rw [memWriteWord_fails (s := s.readLatched r) ((s.fate_readLatched r).trans h), s.sensorAtNext_readLatched]
  exact finished_endPhase_second hreset r _ _ _

end

/-! The read-modify-write (42_driver_config.md R140) -/

/-- A read-modify-write command with a legal `sel` is the read-modify-write of its `modify`. -/
theorem exec_of_modifyOf {i : Instr} {modify : Word → Word} (hm : modifyOf i = some modify)
    (h : checkError i = none) (s : State) : exec i s = .next (checkPhase (rmwConfig modify) s) := by
  cases i with
  | sethyst code =>
    have hlegal : legalCode code = true := by simpa [checkError] using h
    cases hm
    rw [exec, execSethyst, hlegal, checkSel_true]
  | setshdn flag =>
    have hlegal : legalBoolean flag = true := by simpa [checkError] using h
    cases hm
    rw [exec, execSetshdn, hlegal, checkSel_true]
  | setclk flag =>
    have hlegal : legalBoolean flag = true := by simpa [checkError] using h
    cases hm
    rw [exec, execSetclk, hlegal, checkSel_true]
  | setwlk flag =>
    have hlegal : legalBoolean flag = true := by simpa [checkError] using h
    cases hm
    rw [exec, execSetwlk, hlegal, checkSel_true]
  | setalrt enabled select polarity mode => cases hm; rfl
  | clrint => cases hm; rfl
  | _ => cases hm

theorem checkPhase_rmwConfig {s : State} (hreset : s.NoResetThrough 1) (h : s.Succeeds 0) (modify : Word → Word) :
    checkPhase (rmwConfig modify) s =
      memWriteWord .config (modify (s.moved 0 s.sensor).config) (respond (.ok 0)) (s.readLatched .config) :=
  checkPhase_memReadWord_latch hreset h .config fun cfg => memWriteWord .config (modify cfg) (respond (.ok 0))

/-- Every read-modify-write command runs as R140 says, by the fates of its two transactions. -/
theorem runsReadModifyWrite_of_modifyOf {i : Instr} {modify : Word → Word} (hm : modifyOf i = some modify)
    (h : checkError i = none) : RunsReadModifyWrite i modify := by
  intro s
  refine ⟨fun hreset hread hwrite => ⟨_, exec_of_modifyOf hm h s, ?_⟩,
    fun stored hreset hread => ⟨_, exec_of_modifyOf hm h s, finished_memReadWord_fails hreset hread .config _⟩,
    fun stored hreset hread hwrite => ⟨_, exec_of_modifyOf hm h s, ?_⟩⟩
  all_goals rw [checkPhase_rmwConfig (noResetThrough_of_le hreset (by decide)) hread]
  · exact finished_second_memWriteWord_succeeds hreset hwrite .config .config _ _
  · exact finished_second_memWriteWord_fails hreset hwrite .config .config _ _

/-! What a read-modify-write makes of the word read -/

/-- The value has no bit outside the field when shifted to its place. -/
abbrev Field.Fits (f : Field) (v : Word) : Prop := (v <<< f.shift.toNat) &&& f.mask = v <<< f.shift.toNat

/-- A value that fits the field is packed as it is (40_codec.md R106). -/
theorem Field.pack_of_fits {f : Field} {v : Word} (h : f.Fits v) (w : Word) :
    f.pack w v = (w &&& ~~~f.mask) ||| (v <<< f.shift.toNat) := by
  rw [Field.pack, packField, h]

/-- Packing a value together with the field as it stands sets bits and clears none (40_codec.md R107, R109). -/
theorem Field.pack_or_select {f : Field} {n : Nat} (hf : f.mask.toNat = (2 ^ n - 1) * 2 ^ f.shift.toNat) {v : Word}
    (h : f.Fits v) (w : Word) : f.pack w (v ||| f.select w) = w ||| (v <<< f.shift.toNat) := by
  have hselect : (w &&& ~~~f.mask) ||| (f.select w <<< f.shift.toNat &&& f.mask) = w := packField_selectField hf w
  rw [Field.pack, packField, BitVec.shiftLeft_or_distrib, BitVec.and_or_distrib_right, h,
    BitVec.or_comm (v <<< _), ← BitVec.or_assoc, hselect]

theorem modifyHyst_of_legal {code : Sel} (h : code.toNat ≤ 3) (cfg : Word) :
    modifyHyst code cfg = (cfg &&& 0xF9FF) ||| (BitVec.setWidth 16 code <<< 9) := by
  have hfits : tHystField.Fits (selWord code) := by revert code; decide
  exact Field.pack_of_fits hfits cfg

theorem modifyShdn_of_legal {flag : Sel} (h : flag.toNat ≤ 1) (cfg : Word) :
    modifyShdn flag cfg = (cfg &&& 0xFEFF) ||| (BitVec.setWidth 16 flag <<< 8) := by
  have hfits : shdnField.Fits (selWord flag) := by revert flag; decide
  exact Field.pack_of_fits hfits cfg

theorem modifyCritLock_of_legal {flag : Sel} (h : flag.toNat ≤ 1) (cfg : Word) :
    modifyCritLock flag cfg = cfg ||| (BitVec.setWidth 16 flag <<< 7) := by
  have hfits : critLockField.Fits (selWord flag) := by revert flag; decide
  exact Field.pack_or_select (n := 1) rfl hfits cfg

theorem modifyWinLock_of_legal {flag : Sel} (h : flag.toNat ≤ 1) (cfg : Word) :
    modifyWinLock flag cfg = cfg ||| (BitVec.setWidth 16 flag <<< 6) := by
  have hfits : winLockField.Fits (selWord flag) := by revert flag; decide
  exact Field.pack_or_select (n := 1) rfl hfits cfg

/-- The four bits of `sel`, each in its place (42_driver_config.md R146). -/
theorem selWord_alertSel (enabled select polarity mode : Bool) :
    selWord (alertSel enabled select polarity mode) =
      (if enabled then 8 else 0) ||| (if select then 4 else 0) ||| (if polarity then 2 else 0) |||
        (if mode then 1 else 0) := by
  revert enabled select polarity mode
  decide

theorem modifyAlerts_alertSel (enabled select polarity mode : Bool) (cfg : Word) :
    modifyAlerts (alertSel enabled select polarity mode) cfg =
      (cfg &&& 0xFFF0) ||| (if enabled then 8 else 0) ||| (if select then 4 else 0) ||| (if polarity then 2 else 0) |||
        (if mode then 1 else 0) := by
  have hfits : ∀ sel : Sel, alertBitsField.Fits (selWord sel) := by decide
  have hpack : modifyAlerts (alertSel enabled select polarity mode) cfg =
      (cfg &&& 0xFFF0) ||| selWord (alertSel enabled select polarity mode) := by
    rw [modifyAlerts, Field.pack_of_fits (hfits _)]
    exact congrArg _ (BitVec.shiftLeft_zero _)
  simp only [hpack, selWord_alertSel, BitVec.or_assoc]

/-! The commands -/

/-- An illegal `sel` is refused in the check phase (30_encoding.md R85 b). -/
theorem answered_checkSel_of_illegal {s : State} (h : s.NoResetThrough 0) {legal : Bool} (hillegal : legal = false)
    (sel : Sel) (k : State → State) :
    Answered s (checkPhase (checkSel legal sel k) s) (.error (.invalidConfiguration sel)) := by
  rw [hillegal, checkSel_false]
  exact answered_checkPhase_raise h _

/-- Settles O26: the code fits its two bits. -/
theorem sethystReplacesTheHysteresis : Obligations.SethystReplacesTheHysteresis := by
  intro code
  refine ⟨fun hcode => ?_, fun hcode s hreset =>
    ⟨_, rfl, answered_checkSel_of_illegal hreset (decide_eq_false (Nat.not_le_of_gt hcode)) _ _⟩⟩
  rw [← funext (modifyHyst_of_legal hcode)]
  exact runsReadModifyWrite_of_modifyOf rfl (if_pos (decide_eq_true hcode))

/-- Settles O27: the flag fits its bit. -/
theorem setshdnReplacesTheShutdownBit : Obligations.SetshdnReplacesTheShutdownBit := by
  intro flag
  refine ⟨fun hflag => ?_, fun hflag s hreset =>
    ⟨_, rfl, answered_checkSel_of_illegal hreset (decide_eq_false (Nat.not_le_of_gt hflag)) _ _⟩⟩
  rw [← funext (modifyShdn_of_legal hflag)]
  exact runsReadModifyWrite_of_modifyOf rfl (if_pos (decide_eq_true hflag))

/-- Settles O28: the lock bit as read is packed with the flag. -/
theorem setclkOnlySetsTheCriticalLock : Obligations.SetclkOnlySetsTheCriticalLock := by
  intro flag
  refine ⟨fun hflag => ?_, fun hflag s hreset =>
    ⟨_, rfl, answered_checkSel_of_illegal hreset (decide_eq_false (Nat.not_le_of_gt hflag)) _ _⟩⟩
  rw [← funext (modifyCritLock_of_legal hflag)]
  exact runsReadModifyWrite_of_modifyOf rfl (if_pos (decide_eq_true hflag))

/-- Settles O29: the lock bit as read is packed with the flag. -/
theorem setwlkOnlySetsTheWindowLock : Obligations.SetwlkOnlySetsTheWindowLock := by
  intro flag
  refine ⟨fun hflag => ?_, fun hflag s hreset =>
    ⟨_, rfl, answered_checkSel_of_illegal hreset (decide_eq_false (Nat.not_le_of_gt hflag)) _ _⟩⟩
  rw [← funext (modifyWinLock_of_legal hflag)]
  exact runsReadModifyWrite_of_modifyOf rfl (if_pos (decide_eq_true hflag))

/-- Settles O30: `sel` fits its four bits and is the four arguments. -/
theorem setalrtReplacesTheFourAlertBits : Obligations.SetalrtReplacesTheFourAlertBits := by
  intro enabled select polarity mode
  rw [← funext (modifyAlerts_alertSel enabled select polarity mode)]
  exact runsReadModifyWrite_of_modifyOf rfl rfl

/-- Settles O31: GETALRT reads twice; the data is that of `Ran.finished_getalrt`. -/
theorem getalrtAnswersFlagsAndActive : Obligations.GetalrtAnswersFlagsAndActive := by
  intro s
  refine ⟨fun hreset hfirst hsecond => ?_,
    fun stored hreset hfirst => ⟨_, rfl, finished_memReadWord_fails hreset hfirst .tambient _⟩,
    fun stored hreset hfirst hsecond => ⟨_, rfl, ?_⟩⟩
  · obtain ⟨t, hexec, hran⟩ := exec_ran .getalrt s
    exact ⟨t, _, hexec, hran.finished_getalrt hreset hfirst hsecond, alertData_toNat_of_registers _ _⟩
  · rw [checkPhase_memReadWord_latch (noResetThrough_of_le hreset (by decide)) hfirst .tambient fun ta =>
      memReadWord .config fun cfg => respond (.ok (alertData (cmpFlags ta) (alertActive cfg)))]
    exact finished_second_memReadWord_fails hreset hsecond .tambient .config _

/-- Settles O32: CLRINT is a read-modify-write with this `modify`. -/
theorem clrintSetsTheInterruptClearBit : Obligations.ClrintSetsTheInterruptClearBit :=
  runsReadModifyWrite_of_modifyOf (i := .clrint) rfl rfl

end Sys2Proof.Machine
end

section
/-! What every read-modify-write of CONFIG keeps (42_driver_config.md R140, R145, R149): the bits outside its mask, the
lock bits it read as 1, and its own result (`modify_modify_of_modifyOf`). -/

namespace Sys2Proof.Machine

/-- The read-modify-write commands with operands in their legal sets are those with a `modify` that pass their check
(42_driver_config.md R140). -/
theorem exists_modifyOf_of_isReadModifyWrite {i : Instr} (h : IsReadModifyWrite i = true) :
    ∃ modify, modifyOf i = some modify ∧ checkError i = none := by
  cases i with
  | sethyst code => exact ⟨_, rfl, if_pos h⟩
  | setshdn flag => exact ⟨_, rfl, if_pos h⟩
  | setclk flag => exact ⟨_, rfl, if_pos h⟩
  | setwlk flag => exact ⟨_, rfl, if_pos h⟩
  | setalrt enabled select polarity mode => exact ⟨_, rfl, rfl⟩
  | clrint => exact ⟨_, rfl, rfl⟩
  | _ => cases h

/-! Bits outside the mask -/

/-- Setting a bit is packing a 1 in its place. -/
theorem modifyIntClr_eq_pack (cfg : Word) : modifyIntClr cfg = intClrField.pack cfg 1 := by
  ext i hi
  interval_cases i <;> simp [modifyIntClr, intClrField, Field.pack, packField]

/-- Every `modify` packs some value under its command's mask (42_driver_config.md R140, R149). -/
theorem exists_packField_of_modifyOf {i : Instr} {modify : Word → Word} (hm : modifyOf i = some modify) (cfg : Word) :
    ∃ shift value, modify cfg = packField cfg (rmwMask i) shift value := by
  cases i with
  | sethyst code => cases hm; exact ⟨_, _, rfl⟩
  | setshdn flag => cases hm; exact ⟨_, _, rfl⟩
  | setclk flag => cases hm; exact ⟨_, _, rfl⟩
  | setwlk flag => cases hm; exact ⟨_, _, rfl⟩
  | setalrt enabled select polarity mode => cases hm; exact ⟨_, _, rfl⟩
  | clrint => cases hm; exact ⟨_, _, modifyIntClr_eq_pack cfg⟩
  | _ => cases hm

theorem modify_outside_mask {i : Instr} {modify : Word → Word} (hm : modifyOf i = some modify) (cfg : Word) :
    modify cfg &&& ~~~rmwMask i = cfg &&& ~~~rmwMask i := by
  obtain ⟨shift, value, heq⟩ := exists_packField_of_modifyOf hm cfg
  obtain ⟨houtside, -⟩ := packFieldLaws cfg (rmwMask i) 0 value 0 shift 0
  rw [heq, houtside]

theorem getLsbD_modify_outside_mask {i : Instr} {modify : Word → Word} (hm : modifyOf i = some modify) (cfg : Word)
    {k : Nat} (hk : k < 16) (hmask : (rmwMask i).getLsbD k = false) : (modify cfg).getLsbD k = cfg.getLsbD k := by
  obtain ⟨shift, value, heq⟩ := exists_packField_of_modifyOf hm cfg
  rw [heq, getLsbD_packField _ _ _ _ hk, hmask, if_neg Bool.false_ne_true]

/-- Settles O33: the bits outside the mask are kept, and the command runs by the fates of its transactions. -/
theorem readModifyWritePreservesOtherBits : Obligations.ReadModifyWritePreservesOtherBits := by
  intro i hi
  obtain ⟨modify, hm, hcheck⟩ := exists_modifyOf_of_isReadModifyWrite hi
  exact ⟨modify, modify_outside_mask hm, runsReadModifyWrite_of_modifyOf hm hcheck⟩

/-! Lock bits (42_driver_config.md R145) -/

theorem toNat_le_of_legalBoolean {flag : Sel} {e : CommandError}
    (h : (if legalBoolean flag then none else some e) = none) : flag.toNat ≤ 1 := by
  simpa [legalBoolean] using h

/-- A read-modify-write writes a 1 over a lock bit that it read as 1: the locks' own commands clear no bit, and the
other masks hold no lock bit. -/
theorem getLsbD_modify_lock {i : Instr} {modify : Word → Word} (hm : modifyOf i = some modify)
    (h : checkError i = none) {cfg : Word} {k : Nat} (hk : k = 6 ∨ k = 7) (hset : cfg.getLsbD k = true) :
    (modify cfg).getLsbD k = true := by
  have houtside := getLsbD_modify_outside_mask hm cfg (k := k) (by omega)
  cases i with
  | setclk flag =>
    cases hm
    rw [modifyCritLock_of_legal (toNat_le_of_legalBoolean h), BitVec.getLsbD_or, hset, Bool.true_or]
  | setwlk flag =>
    cases hm
    rw [modifyWinLock_of_legal (toNat_le_of_legalBoolean h), BitVec.getLsbD_or, hset, Bool.true_or]
  | _ => exact (houtside (by obtain rfl | rfl := hk <;> simp [rmwMask])).trans hset

/-- The record is of a write of CONFIG. -/
def BusRecord.writesConfig (r : BusRecord) : Bool := r.op.isWrite && r.op.pointer == 0x01

theorem Fate.writesConfig_shows (fate : Fate) {good bad : BusRecord} (hgood : good.writesConfig = false)
    (hbad : bad.writesConfig = false) : (fate.shows good bad).writesConfig = false := by
  obtain h | h := fate.shows_cases good bad <;> rw [h]
  · exact hgood
  · exact hbad

/-- SETTHR does not write CONFIG (41_driver_temperature.md R122). -/
theorem writesConfig_threshold (s : State) (phase : Nat) (which : Sel) (raw : Word) (ok : Bool) :
    (s.seen phase (.wr16 (thresholdReg which).pointer raw ok)).writesConfig = false := by
  unfold thresholdReg
  split_ifs <;> rfl

/-- No command but a read-modify-write writes CONFIG, and that one after it has read it (42_driver_config.md R145). -/
theorem Ran.config_writes {i : Instr} {s t : State} (h : Ran i s t) :
    ∃ records, t.bus.trace = records ++ s.bus.trace ∧ records.length ≤ 2 ∧
      ((∀ r ∈ records, r.writesConfig = false) ∨
        ∃ modify cfg done, modifyOf i = some modify ∧ checkError i = none ∧
          records = [s.seen 2 (.wr16 0x01 (swap16 (modify cfg)) done), s.seen 1 (.rd16 0x01 (some (swap16 cfg)))]) := by
  cases h with
  | abandoned hr => exact ⟨[], rfl, by decide, .inl (by simp)⟩
  | refused hr kind h => exact ⟨[], rfl, by decide, .inl (by simp)⟩
  | codec hr data h hd => exact ⟨[], rfl, by decide, .inl (by simp)⟩
  | temperature hr hi =>
    exact ⟨_, rfl, Nat.le_succ 1, .inl (by simpa using Fate.writesConfig_shows _ rfl rfl)⟩
  | threshold hr which v hi h =>
    have hthreshold := writesConfig_threshold s 1 which
    exact ⟨_, rfl, Nat.le_succ 1, .inl (by simpa using Fate.writesConfig_shows _ (hthreshold ..) (hthreshold ..))⟩
  | resolution hr code hi h =>
    exact ⟨_, rfl, Nat.le_succ 1, .inl (by simpa using Fate.writesConfig_shows _ rfl rfl)⟩
  | alertFirst hr hi h0 =>
    exact ⟨_, rfl, Nat.le_succ 1, .inl (by simpa using Fate.writesConfig_shows _ rfl rfl)⟩
  | alertSecond hr hi h0 h1 =>
    exact ⟨_, rfl, Nat.le_refl 2, .inl (by simpa using ⟨Fate.writesConfig_shows _ rfl rfl, rfl⟩)⟩
  | modifyFirst hr modify hm h h0 =>
    exact ⟨_, rfl, Nat.le_succ 1, .inl (by simpa using Fate.writesConfig_shows _ rfl rfl)⟩
  | modifySecond hr modify hm h h0 h1 =>
    obtain hshows | hshows := Fate.shows_cases (s.inputAt 1).fate _ _
    · exact ⟨_, rfl, Nat.le_refl 2, .inr ⟨modify, _, true, hm, h, by rw [hshows]⟩⟩
    · exact ⟨_, rfl, Nat.le_refl 2, .inr ⟨modify, _, false, hm, h, by rw [hshows]⟩⟩

/-- Settles O35: a write of CONFIG is the newer of a read-modify-write's two records. -/
theorem noCommandClearsALockItRead : Obligations.NoCommandClearsALockItRead := by
  intro i s t hexec
  obtain ⟨records, htrace, hlength, hwrites⟩ := (ran_of_exec hexec).config_writes
  refine ⟨records, htrace, hlength, fun newer r older hrecords raw ok hop => ?_⟩
  obtain hnone | ⟨modify, cfg, done, hm, hcheck, rfl⟩ := hwrites
  · have hr := hnone r (by simp [hrecords])
    rw [BusRecord.writesConfig, hop] at hr
    cases hr
  · cases newer with
    | nil =>
      cases hrecords
      cases hop
      refine ⟨rfl, _, List.mem_singleton_self _, _, rfl, rfl, fun k hk hset => ?_⟩
      rw [swap16_swap16] at hset ⊢
      exact getLsbD_modify_lock hm hcheck hk hset
    | cons w rest =>
      have hr : r ∈ [s.seen 1 (.rd16 0x01 (some (swap16 cfg)))] := by
        rw [(List.cons.inj hrecords).2]
        simp
      rw [List.mem_singleton.mp hr] at hop
      cases hop

/-! The same command again (42_driver_config.md R149) -/

theorem Field.pack_pack (f : Field) (w v : Word) : f.pack (f.pack w v) v = f.pack w v := by
  obtain ⟨-, -, hidempotent, -⟩ := packFieldLaws w f.mask 0 v 0 f.shift 0
  exact hidempotent

theorem modify_modify_of_modifyOf {i : Instr} {modify : Word → Word} (hm : modifyOf i = some modify)
    (h : checkError i = none) (cfg : Word) : modify (modify cfg) = modify cfg := by
  cases i with
  | sethyst code => cases hm; exact tHystField.pack_pack cfg _
  | setshdn flag => cases hm; exact shdnField.pack_pack cfg _
  | setalrt enabled select polarity mode => cases hm; exact alertBitsField.pack_pack cfg _
  | clrint => cases hm; rw [modifyIntClr_eq_pack, modifyIntClr_eq_pack, Field.pack_pack]
  | setclk flag =>
    cases hm
    have hflag := toNat_le_of_legalBoolean h
    rw [modifyCritLock_of_legal hflag, modifyCritLock_of_legal hflag, BitVec.or_assoc, BitVec.or_self]
  | setwlk flag =>
    cases hm
    have hflag := toNat_le_of_legalBoolean h
    rw [modifyWinLock_of_legal hflag, modifyWinLock_of_legal hflag, BitVec.or_assoc, BitVec.or_self]
  | _ => cases hm

/-- A word with bit 4 as it was and no set lock bit cleared is stored as it is (10_state.md R38). -/
theorem configWrite_eq_self {old v : Word} (hstat : v.getLsbD 4 = old.getLsbD 4)
    (hlocks : ∀ k, k = 6 ∨ k = 7 → old.getLsbD k = true → v.getLsbD k = true) : configWrite old v = v := by
  apply BitVec.eq_of_getLsbD_eq
  intro i _
  rw [getLsbD_configWrite]
  split_ifs with h4 hlock
  · rw [h4, hstat]
  · cases hold : old.getLsbD i
    · rfl
    · rw [hlocks i hlock hold, Bool.true_or]
  · rfl

/-- No mask holds ALERT_STAT (10_state.md R28; 42_driver_config.md R149). -/
theorem getLsbD_rmwMask_four (i : Instr) : (rmwMask i).getLsbD 4 = false := by
  cases i <;> simp [rmwMask]

theorem configWrite_modify {i : Instr} {modify : Word → Word} (hm : modifyOf i = some modify)
    (h : checkError i = none) (cfg : Word) : configWrite cfg (modify cfg) = modify cfg :=
  configWrite_eq_self (getLsbD_modify_outside_mask hm cfg (by decide) (getLsbD_rmwMask_four i))
    fun _ hk hset => getLsbD_modify_lock hm h hk hset

/-- Writing CONFIG back as it stands changes nothing, whatever is kept (10_state.md R38). -/
theorem sensorWrite_config_self (how : SensorWrite) (x : Sensor) : sensorWrite how x .config x.config = x.config := by
  apply BitVec.eq_of_getLsbD_eq
  intro i _
  have hdefault : defaultWrite .config x.config x.config = x.config := configWrite_eq_self rfl fun _ _ => id
  rw [getLsbD_sensorWrite, Sensor.word, hdefault, ite_self]

/-- A read-modify-write that no other agent disturbs works on CONFIG as it stands (42_driver_config.md R140). -/
theorem exists_exec_of_quiet {i : Instr} {modify : Word → Word} (hm : modifyOf i = some modify)
    (h : checkError i = none) {s : State} (hreset : s.NoResetThrough 2) (hquiet0 : s.Quiet 0) (hquiet1 : s.Quiet 1)
    (hread : s.Succeeds 0) (hwrite : s.Succeeds 1) :
    ∃ t, exec i s = .next t ∧ Finished s t 2
      [s.seen 2 (.wr16 0x01 (swap16 (modify s.sensor.config)) true),
        s.seen 1 (.rd16 0x01 (some (swap16 s.sensor.config)))]
      (s.sensor.storeWord s.platform.sensorWrite .config (modify s.sensor.config)) (.ok 0) := by
  obtain ⟨hdone, -⟩ := runsReadModifyWrite_of_modifyOf hm h s
  obtain ⟨t, hexec, hrmw⟩ := hdone hreset hread hwrite
  refine ⟨t, hexec, ?_⟩
  rwa [ReadModifyWrite, State.moved_of_quiet hquiet0, State.moved_of_quiet hquiet1] at hrmw

/-- Settles O34: the second run reads the word the first one wrote, and its `modify` changes nothing of it. -/
theorem readModifyWriteIsIdempotent : Obligations.ReadModifyWriteIsIdempotent := by
  intro i s t hi hreset hquiet0 hquiet1 hread hwrite hexec
  obtain ⟨modify, hm, hcheck⟩ := exists_modifyOf_of_isReadModifyWrite hi
  obtain ⟨t', hexec', hfinished⟩ := exists_exec_of_quiet hm hcheck hreset hquiet0 hquiet1 hread hwrite
  obtain rfl := Host.Outcome.next.inj (hexec.symm.trans hexec')
  refine ⟨modify s.sensor.config, by rw [hfinished.trace]; rfl, modify_outside_mask hm _, fun htakes => ?_⟩
  have hconfig : t.sensor.config = modify s.sensor.config := by
    rw [hfinished.sensor]
    exact (sensorWrite_of_takesWrites htakes .config _).trans (configWrite_modify hm hcheck _)
  refine ⟨hconfig, fun hquiet0' hquiet1' hread' hwrite' => ?_⟩
  have hagain : modify t.sensor.config = t.sensor.config := by
    rw [hconfig, modify_modify_of_modifyOf hm hcheck]
  obtain ⟨u, hexecu, hfinishedu⟩ := exists_exec_of_quiet hm hcheck (s := t)
    (fun _ _ => by simp [hfinished.resetAfter]) hquiet0' hquiet1' hread' hwrite'
  rw [hagain] at hfinishedu
  refine ⟨u, hexecu, ?_, ?_⟩
  · rw [hfinishedu.trace, ← hconfig, State.seen, State.seen, State.seen, hfinished.platform]
    rfl
  · rw [hfinishedu.sensor, ← hconfig]
    exact sensorWrite_config_self _ _

end Sys2Proof.Machine
end

section
/-! What a command that ends in an error has done (60_exceptions.md R170 to R177): its check phase refused it before
anything else happened, or its last transaction failed (`Ran.error_cases`). -/

namespace Sys2Proof.Machine

/-! The errors of the check phase (30_encoding.md R84, R85 b, R93; 40_codec.md R104) -/

theorem checkError_enct_eq_some_iff (t : Tval) (kind : CommandError) :
    checkError (.enct t) = some kind ↔ .rangeError t = kind ∧ (t.toInt < -16777216 ∨ 16773120 < t.toInt) := by
  simp [checkError, outOfRange_iff, traw, and_comm]

theorem checkError_enct_eq_rangeError_iff (t v : Tval) :
    checkError (.enct t) = some (.rangeError v) ↔ t = v ∧ (v.toInt < -16777216 ∨ 16773120 < v.toInt) := by
  rw [checkError_enct_eq_some_iff, CommandError.rangeError.injEq]
  exact and_congr_right fun h => by rw [h]

/-- SETTHR with an illegal `which` is refused for it, and else checked as ENCT is (41_driver_temperature.md R123). -/
theorem checkError_setthr_eq_some_iff (which : Sel) (t : Tval) (kind : CommandError) :
    checkError (.setthr which t) = some kind ↔
      (2 < which.toNat ∧ .invalidConfiguration which = kind) ∨
        (which.toNat ≤ 2 ∧ checkError (.enct t) = some kind) := by
  by_cases h : which.toNat ≤ 2
  · have hlegal : checkError (.setthr which t) = checkError (.enct t) := if_pos (decide_eq_true h)
    simp [hlegal, h, Nat.not_lt_of_le h]
  · have hillegal : checkError (.setthr which t) = some (.invalidConfiguration which) :=
      if_neg (mt of_decide_eq_true h)
    simp [hillegal, h, Nat.lt_of_not_le h]

theorem checkError_eq_invalidCommand_iff (i : Instr) :
    checkError i = some .invalidCommand ↔ i = .reservedE ∨ i = .reservedF := by
  cases i with
  | setthr which t => simp [checkError_setthr_eq_some_iff, checkError_enct_eq_some_iff]
  | _ => simp [checkError]

theorem checkError_eq_invalidConfiguration_iff (i : Instr) :
    (∃ sel, checkError i = some (.invalidConfiguration sel)) ↔
      WellFormed i = false ∧ i ≠ .reservedE ∧ i ≠ .reservedF := by
  cases i with
  | setthr which t => simp [checkError_setthr_eq_some_iff, checkError_enct_eq_some_iff, WellFormed]
  | _ => simp [checkError, WellFormed, legalCode, legalBoolean]

theorem checkError_eq_rangeError_iff (i : Instr) (v : Tval) :
    checkError i = some (.rangeError v) ↔
      WellFormed i = true ∧ tvalOperand i = some v ∧ (v.toInt < -16777216 ∨ 16773120 < v.toInt) := by
  cases i with
  | enct t => simp [checkError_enct_eq_rangeError_iff, WellFormed, tvalOperand]
  | setthr which t =>
    simp [checkError_setthr_eq_some_iff, checkError_enct_eq_rangeError_iff, WellFormed, tvalOperand]
  | _ => simp [checkError, WellFormed, tvalOperand]

/-- The check phase issues no transaction (30_encoding.md R93). -/
theorem checkError_ne_transportError (i : Instr) (p : Byte) : checkError i ≠ some (.transportError p) := by
  cases i with
  | setthr which t => simp [checkError_setthr_eq_some_iff, checkError_enct_eq_some_iff]
  | _ => simp [checkError]

/-- A command the assembler would not write is refused for its opcode or its `sel` (30_encoding.md R84, R85 b). -/
theorem exists_checkError_of_not_wellFormed {i : Instr} (h : WellFormed i = false) :
    ∃ kind, checkError i = some kind ∧ (kind = .invalidCommand ∨ ∃ sel, kind = .invalidConfiguration sel) := by
  by_cases hreserved : i = .reservedE ∨ i = .reservedF
  · exact ⟨_, (checkError_eq_invalidCommand_iff i).mpr hreserved, .inl rfl⟩
  · obtain ⟨sel, hsel⟩ := (checkError_eq_invalidConfiguration_iff i).mpr ⟨h, not_or.mp hreserved⟩
    exact ⟨_, hsel, .inr ⟨sel, rfl⟩⟩

/-! The response of a command -/

/-- What a command answered is the response it added. -/
theorem State.out_of_responses_finish (s : State) {n : Nat} {records : List BusRecord} {x : Sensor}
    {out : Option Response} {r : Response} (h : (s.finish n records x out).responses = r :: s.responses) :
    out = some r := by
  cases out <;> simp_all [State.finish]

theorem State.answer_eq_some_iff (s : State) (phase : Nat) (r r' : Response) :
    s.answer phase r = some r' ↔ s.resetAfter ≠ some phase ∧ r = r' := by
  simp [State.answer]

/-- A command that a transaction ends reports an error only when that transaction failed (60_exceptions.md R171). -/
theorem State.failed_of_answer (s : State) {phase : Nat} {fate : Fate} {p : Byte} {data : BitVec 32}
    {kind : CommandError} (h : s.answer phase (fate.answers p (.ok data)) = some (.error kind)) :
    fate ≠ .succeeds ∧ .transportError p = kind := by
  obtain ⟨-, hanswers⟩ := (s.answer_eq_some_iff ..).mp h
  cases fate with
  | succeeds => cases hanswers
  | _ => exact ⟨by simp, Response.error.inj hanswers⟩

theorem Fate.shows_of_ne_succeeds {fate : Fate} (h : fate ≠ .succeeds) (good bad : BusRecord) :
    fate.shows good bad = bad := by
  cases fate with
  | succeeds => exact absurd rfl h
  | _ => rfl

/-! Commands -/

/-- A command whose check phase raises an error ends there, where no reset of the block comes first
(60_exceptions.md R173, R174). -/
theorem Ran.answered_of_checkError {i : Instr} {s t : State} (h : Ran i s t) (hreset : s.resetAfter ≠ some 0)
    {kind : CommandError} (hcheck : checkError i = some kind) : Answered s t (.error kind) := by
  have hraises : checkError i ≠ none := by simp [hcheck]
  cases h with
  | abandoned hr => exact absurd hr hreset
  | refused hr kind' h =>
    cases hcheck.symm.trans h
    exact s.finished_finish ..
  | codec hr data h hd => exact absurd h hraises
  | temperature hr hi => subst hi; cases hcheck
  | threshold hr which v hi h => exact absurd h hraises
  | resolution hr code hi h => exact absurd h hraises
  | alertFirst hr hi h0 => subst hi; cases hcheck
  | alertSecond hr hi h0 h1 => subst hi; cases hcheck
  | modifyFirst hr modify hm h h0 => exact absurd h hraises
  | modifySecond hr modify hm h h0 h1 => exact absurd h hraises

/-- The `n`-th transaction, the first that failed, ended the command in phase `n` with this error
(60_exceptions.md R171, R175). -/
def LastTransactionFailed (s t : State) (kind : CommandError) : Prop :=
  ∃ n op older x, t = s.finish n (s.seen n op :: older) x (some (.error kind)) ∧ op.succeeded = false ∧
    kind = .transportError op.pointer ∧ ((n = 1 ∧ ¬ s.Succeeds 0) ∨ (n = 2 ∧ s.Succeeds 0))

/-- The record and the response of a command that a failed transaction ended. -/
theorem lastTransactionFailed_finish {s : State} {n : Nat} {fate : Fate} {good : BusRecord} {op : BusOp}
    {older : List BusRecord} {x : Sensor} {out : Option Response} {kind : CommandError}
    (hout : out = some (.error kind)) (hfate : fate ≠ .succeeds) (hop : op.succeeded = false)
    (hkind : .transportError op.pointer = kind) (hphase : (n = 1 ∧ ¬ s.Succeeds 0) ∨ (n = 2 ∧ s.Succeeds 0)) :
    LastTransactionFailed s (s.finish n (fate.shows good (s.seen n op) :: older) x out) kind := by
  rw [hout, Fate.shows_of_ne_succeeds hfate]
  exact ⟨n, op, older, x, rfl, hop, hkind.symm, hphase⟩

/-- A command that its last transaction answers ends in an error only when that transaction failed. -/
theorem lastTransactionFailed_of_answers {s : State} {n : Nat} {fate : Fate} {good : BusRecord} {op : BusOp}
    {older : List BusRecord} {x : Sensor} {data : BitVec 32} {kind : CommandError}
    (herror : (s.finish n (fate.shows good (s.seen n op) :: older) x
      (s.answer n (fate.answers op.pointer (.ok data)))).responses = .error kind :: s.responses)
    (hop : op.succeeded = false)
    (hphase : fate ≠ .succeeds → (n = 1 ∧ ¬ s.Succeeds 0) ∨ (n = 2 ∧ s.Succeeds 0)) :
    LastTransactionFailed s (s.finish n (fate.shows good (s.seen n op) :: older) x
      (s.answer n (fate.answers op.pointer (.ok data)))) kind := by
  have hout := s.out_of_responses_finish herror
  obtain ⟨hfate, hkind⟩ := s.failed_of_answer hout
  exact lastTransactionFailed_finish hout hfate hop hkind (hphase hfate)

/-- A command of two transactions that the first, or a reset after it, ended reports an error only when that one
failed. -/
theorem lastTransactionFailed_of_first {s : State} {good : BusRecord} {op : BusOp} {x : Sensor} {kind : CommandError}
    (herror : (s.finish 1 [(s.inputAt 0).fate.shows good (s.seen 1 op)] x
      (s.answer 1 (.error (.transportError op.pointer)))).responses = .error kind :: s.responses)
    (hop : op.succeeded = false) (h0 : ¬ s.Succeeds 0 ∨ s.resetAfter = some 1) :
    LastTransactionFailed s (s.finish 1 [(s.inputAt 0).fate.shows good (s.seen 1 op)] x
      (s.answer 1 (.error (.transportError op.pointer)))) kind := by
  have hout := s.out_of_responses_finish herror
  obtain ⟨hreset, hkind⟩ := (s.answer_eq_some_iff ..).mp hout
  have hfate := h0.resolve_right hreset
  exact lastTransactionFailed_finish hout hfate hop (Response.error.inj hkind) (.inl ⟨rfl, hfate⟩)

/-- The two ways to an error (60_exceptions.md R170, R175): the check phase raised it and nothing else happened, or the
checks passed and a transaction failed. -/
theorem Ran.error_cases {i : Instr} {s t : State} (h : Ran i s t) {kind : CommandError}
    (herror : t.responses = .error kind :: s.responses) :
    (checkError i = some kind ∧ t = s.finish 0 [] s.sensor (some (.error kind))) ∨
      (checkError i = none ∧ LastTransactionFailed s t kind) := by
  cases h with
  | abandoned hr => cases s.out_of_responses_finish herror
  | refused hr kind' h =>
    cases s.out_of_responses_finish herror
    exact .inl ⟨h, rfl⟩
  | codec hr data h hd => cases s.out_of_responses_finish herror
  | temperature hr hi =>
    subst hi
    exact .inr ⟨rfl, lastTransactionFailed_of_answers herror rfl fun h0 => .inl ⟨rfl, h0⟩⟩
  | threshold hr which v hi h =>
    exact .inr ⟨h, lastTransactionFailed_of_answers herror rfl fun h0 => .inl ⟨rfl, h0⟩⟩
  | resolution hr code hi h =>
    exact .inr ⟨h, lastTransactionFailed_of_answers herror rfl fun h0 => .inl ⟨rfl, h0⟩⟩
  | alertFirst hr hi h0 =>
    subst hi
    exact .inr ⟨rfl, lastTransactionFailed_of_first herror rfl h0⟩
  | alertSecond hr hi h0 h1 =>
    subst hi
    exact .inr ⟨rfl, lastTransactionFailed_of_answers herror rfl fun _ => .inr ⟨rfl, h0⟩⟩
  | modifyFirst hr modify hm h h0 => exact .inr ⟨h, lastTransactionFailed_of_first herror rfl h0⟩
  | modifySecond hr modify hm h h0 h1 =>
    exact .inr ⟨h, lastTransactionFailed_of_answers herror rfl fun _ => .inr ⟨rfl, h0⟩⟩

/-- An error but `TransportError` is the check phase's (60_exceptions.md R170). -/
theorem Ran.checkError_eq_iff_of_error {i : Instr} {s t : State} (h : Ran i s t) {kind : CommandError}
    (herror : t.responses = .error kind :: s.responses) {e : CommandError} (he : ∀ p, e ≠ .transportError p) :
    kind = e ↔ checkError i = some e := by
  obtain ⟨hcheck, -⟩ | ⟨hcheck, n, op, older, x, -, -, hkind, -⟩ := h.error_cases herror
  · rw [hcheck, Option.some.injEq]
  · simp [hcheck, hkind, (he op.pointer).symm]

/-! The obligations -/

/-- Settles O37: an ill-formed command is refused in its check phase, and a well-formed one passes the checks of opcode
and `sel`. -/
theorem illFormedCommandsAreRefusedUntouched : Obligations.IllFormedCommandsAreRefusedUntouched := by
  intro i s
  obtain ⟨t, hexec, hran⟩ := exec_ran i s
  constructor
  · intro hwf hreset
    obtain ⟨kind, hcheck, hkind⟩ := exists_checkError_of_not_wellFormed hwf
    exact ⟨t, kind, hexec, hran.answered_of_checkError (hreset 0 (Nat.le_refl 0)) hcheck, hkind⟩
  · intro hwf
    refine ⟨t, hexec, fun herror => ?_, fun sel herror => ?_⟩
    · have hcheck := (hran.checkError_eq_iff_of_error herror (by simp)).mp rfl
      obtain rfl | rfl := (checkError_eq_invalidCommand_iff i).mp hcheck <;> cases hwf
    · have hcheck := (hran.checkError_eq_iff_of_error herror (by simp)).mp rfl
      obtain ⟨hill, -⟩ := (checkError_eq_invalidConfiguration_iff i).mp ⟨sel, hcheck⟩
      simp [hwf] at hill

/-- Settles O38: an error of the check phase is the one its checks raise, any other the failed transaction's. -/
theorem theFirstErrorInOrderIsReported : Obligations.TheFirstErrorInOrderIsReported := by
  intro i s t kind hexec herror
  have hran := ran_of_exec hexec
  have raised {e : CommandError} := hran.checkError_eq_iff_of_error herror (e := e)
  refine ⟨?_, ?_, fun v => ?_, fun p hp => ?_⟩
  · rw [raised (by simp), checkError_eq_invalidCommand_iff]
  · rw [← checkError_eq_invalidConfiguration_iff]
    exact exists_congr fun sel => raised (by simp)
  · rw [raised (by simp), checkError_eq_rangeError_iff]
  · subst hp
    obtain ⟨hcheck, -⟩ | ⟨hcheck, n, op, older, x, rfl, hop, hpointer, hphase⟩ := hran.error_cases herror
    · exact absurd hcheck (checkError_ne_transportError i p)
    · refine ⟨(checkError_eq_none_iff i).mp hcheck, s.seen n op, rfl, hop,
        (CommandError.transportError.inj hpointer).symm, ?_⟩
      obtain ⟨rfl, h0⟩ | ⟨rfl, h0⟩ := hphase
      · exact ⟨iff_of_true rfl h0, iff_of_false (by simp [State.seen]) h0⟩
      · exact ⟨iff_of_false (by simp [State.seen]) (not_not_intro h0), iff_of_true rfl h0⟩

/-- Settles O39: `State.finish` is idle and keeps platform and turns, and with no record it keeps the bus. -/
theorem errorsLeaveNothingBehind : Obligations.ErrorsLeaveNothingBehind := by
  intro i s t kind hexec herror
  obtain ⟨-, rfl⟩ | ⟨-, n, op, older, x, rfl, -, hkind, -⟩ := (ran_of_exec hexec).error_cases herror
  · exact ⟨rfl, rfl, rfl, rfl, fun _ => ⟨rfl, rfl⟩⟩
  · exact ⟨rfl, rfl, rfl, rfl, fun h => absurd hkind (h op.pointer)⟩

end Sys2Proof.Machine
end

section
/-! No command is partly applied (60_exceptions.md R186): every transaction but a command's last was a read that
completed, and where the last failed the sensor is as the other agents made it or took that write's data. -/

namespace Sys2Proof.Machine

/-- The records of one command, newest first: every one but the newest is of a read that completed (20_memory.md R60;
60_exceptions.md R171). -/
def OnlyNewestMayWrite (records : List BusRecord) : Prop :=
  ∀ r ∈ records.tail, r.op.succeeded = true ∧ r.op.isWrite = false

theorem onlyNewestMayWrite_nil : OnlyNewestMayWrite [] := nofun

theorem onlyNewestMayWrite_singleton (r : BusRecord) : OnlyNewestMayWrite [r] := nofun

theorem onlyNewestMayWrite_pair (r : BusRecord) {first : BusRecord} (hsucceeded : first.op.succeeded = true)
    (hread : first.op.isWrite = false) : OnlyNewestMayWrite [r, first] := by
  simp [OnlyNewestMayWrite, hsucceeded, hread]

/-- After a failed transaction there is none. -/
theorem OnlyNewestMayWrite.eq_nil_of_failed {newer older : List BusRecord} (h : OnlyNewestMayWrite (newer ++ older))
    (hfailed : ∃ r ∈ older, r.op.succeeded = false) : newer = [] := by
  obtain ⟨r, hr, hfailed⟩ := hfailed
  cases newer with
  | nil => rfl
  | cons _ rest =>
    obtain ⟨hsucceeded, -⟩ := h r (List.mem_append_right rest hr)
    simp [hfailed] at hsucceeded

theorem OnlyNewestMayWrite.at_most_one_write {records : List BusRecord} (h : OnlyNewestMayWrite records) :
    (records.filter (fun r => r.op.isWrite)).length ≤ 1 := by
  cases records with
  | nil => simp
  | cons r rest =>
    have hrest : rest.filter (fun r => r.op.isWrite) = [] := by
      simpa using fun r hr => (h r hr).2
    rw [List.filter_cons, hrest]
    split <;> simp

/-- What 60_exceptions.md R186 (c) lets a command that ends in an error leave behind: the sensor as the other agents
made it, or with the data of its one write, which failed. -/
def NotApplied (i : Instr) (s : State) (records : List BusRecord) (x : Sensor) : Prop :=
  (records = [] ∧ x = s.sensor) ∨
  (records.length = 1 ∧ x = s.moved 0 s.sensor) ∨
  (records.length = 2 ∧ x = s.moved 1 (s.moved 0 s.sensor)) ∨
  (s.Fails 0 true ∧ ∃ which v r, i = .setthr which v ∧ r.pointer = 0x02 + BitVec.setWidth 8 which ∧
    ∃ raw, records = [s.seen 1 (.wr16 r.pointer raw false)] ∧
      x = (s.moved 0 s.sensor).storeWord s.platform.sensorWrite r (swap16 raw)) ∨
  (s.Fails 0 true ∧ ∃ code, i = .setres code ∧ ∃ v, records = [s.seen 1 (.wr8 0x08 v false)] ∧
    x = (s.moved 0 s.sensor).storeByte s.platform.sensorWrite v) ∨
  (s.Succeeds 0 ∧ s.Fails 1 true ∧ IsReadModifyWrite i = true ∧
    ∃ raw first, records = [s.seen 2 (.wr16 0x01 raw false), first] ∧
      x = (s.moved 1 (s.moved 0 s.sensor)).storeWord s.platform.sensorWrite .config (swap16 raw))

/-- The converse of `exists_modifyOf_of_isReadModifyWrite` (42_driver_config.md R140). -/
theorem isReadModifyWrite_of_modifyOf {i : Instr} {modify : Word → Word} (hm : modifyOf i = some modify)
    (h : checkError i = none) : IsReadModifyWrite i = true := by
  cases i with
  | sethyst code => simpa [checkError, legalCode, IsReadModifyWrite] using h
  | setshdn flag => exact decide_eq_true (toNat_le_of_legalBoolean h)
  | setclk flag => exact decide_eq_true (toNat_le_of_legalBoolean h)
  | setwlk flag => exact decide_eq_true (toNat_le_of_legalBoolean h)
  | setalrt enabled select polarity mode => rfl
  | clrint => rfl
  | _ => cases hm

/-- A transaction that ended a command in an error is a failure the transport reported, unless the sensor lost power
(20_memory.md R51). -/
theorem State.exists_fails_of_responses_finish (s : State) {n phase : Nat} {records : List BusRecord} {x : Sensor}
    {fate : Fate} {p : Byte} {data : BitVec 32} {kind : CommandError}
    (herror : (s.finish n records x (s.answer phase (fate.answers p (.ok data)))).responses =
      .error kind :: s.responses)
    (hpower : fate.isPowerOnReset = false) : ∃ stored, fate = .fails stored := by
  obtain ⟨hfate, -⟩ := s.failed_of_answer (s.out_of_responses_finish herror)
  cases fate with
  | succeeds => exact absurd rfl hfate
  | fails stored => exact ⟨stored, rfl⟩
  | powerOnReset drawn => cases hpower

/-- Everything a command leaves on the port and, when it ends in an error with no power loss, in the sensor. -/
theorem Ran.not_partly_applied {i : Instr} {s t : State} (h : Ran i s t) :
    ∃ records, t.bus.trace = records ++ s.bus.trace ∧ OnlyNewestMayWrite records ∧
      ∀ kind, t.responses = .error kind :: s.responses → (s.inputAt 0).fate.isPowerOnReset = false →
        (s.Succeeds 0 → (s.inputAt 1).fate.isPowerOnReset = false) → NotApplied i s records t.sensor := by
  cases h with
  | abandoned hr => exact ⟨[], rfl, onlyNewestMayWrite_nil, fun _ _ _ _ => .inl ⟨rfl, rfl⟩⟩
  | refused hr kind h => exact ⟨[], rfl, onlyNewestMayWrite_nil, fun _ _ _ _ => .inl ⟨rfl, rfl⟩⟩
  | codec hr data h hd => exact ⟨[], rfl, onlyNewestMayWrite_nil, fun _ _ _ _ => .inl ⟨rfl, rfl⟩⟩
  | temperature hr hi =>
    exact ⟨_, rfl, onlyNewestMayWrite_singleton _, fun _ _ hpower _ =>
      .inr (.inl ⟨rfl, Fate.afterRead_of_not_powerOnReset hpower _⟩)⟩
  | alertFirst hr hi h0 =>
    exact ⟨_, rfl, onlyNewestMayWrite_singleton _, fun _ _ hpower _ =>
      .inr (.inl ⟨rfl, Fate.afterRead_of_not_powerOnReset hpower _⟩)⟩
  | modifyFirst hr modify hm h h0 =>
    exact ⟨_, rfl, onlyNewestMayWrite_singleton _, fun _ _ hpower _ =>
      .inr (.inl ⟨rfl, Fate.afterRead_of_not_powerOnReset hpower _⟩)⟩
  | alertSecond hr hi h0 h1 =>
    exact ⟨_, rfl, onlyNewestMayWrite_pair _ rfl rfl, fun _ _ _ hpower =>
      .inr (.inr (.inl ⟨rfl, Fate.afterRead_of_not_powerOnReset (hpower h0) _⟩))⟩
  | threshold hr which v hi h =>
    refine ⟨_, rfl, onlyNewestMayWrite_singleton _, fun kind herror hpower _ => ?_⟩
    obtain ⟨stored, hfate⟩ := s.exists_fails_of_responses_finish herror hpower
    subst hi
    have hpointer := thresholdReg_pointer ((checkError_setthr_eq_none_iff which v).mp h).1
    rw [hfate]
    cases stored with
    | false => exact .inr (.inl ⟨rfl, rfl⟩)
    | true =>
      refine .inr (.inr (.inr (.inl ⟨hfate, which, v, thresholdReg which, rfl, hpointer, _, rfl, ?_⟩)))
      rw [swap16_swap16]
      rfl
  | resolution hr code hi h =>
    refine ⟨_, rfl, onlyNewestMayWrite_singleton _, fun kind herror hpower _ => ?_⟩
    obtain ⟨stored, hfate⟩ := s.exists_fails_of_responses_finish herror hpower
    rw [hfate]
    cases stored with
    | false => exact .inr (.inl ⟨rfl, rfl⟩)
    | true => exact .inr (.inr (.inr (.inr (.inl ⟨hfate, code, hi, _, rfl, rfl⟩))))
  | modifySecond hr modify hm h h0 h1 =>
    refine ⟨_, rfl, onlyNewestMayWrite_pair _ rfl rfl, fun kind herror _ hpower => ?_⟩
    obtain ⟨stored, hfate⟩ := s.exists_fails_of_responses_finish herror (hpower h0)
    rw [hfate]
    cases stored with
    | false => exact .inr (.inr (.inl ⟨rfl, rfl⟩))
    | true =>
      refine .inr (.inr (.inr (.inr (.inr ⟨h0, hfate, isReadModifyWrite_of_modifyOf hm h, _, _, rfl, ?_⟩))))
      rw [swap16_swap16]
      rfl

/-- Settles O40: (a) and (b) by the records, (c) as `NotApplied`. -/
theorem noCommandIsPartlyApplied : Obligations.NoCommandIsPartlyApplied := by
  intro i s t hexec
  obtain ⟨records, htrace, hreads, hsensor⟩ := (ran_of_exec hexec).not_partly_applied
  refine ⟨records, htrace, fun newer older hrecords hfailed => ?_, hreads.at_most_one_write, hsensor⟩
  subst hrecords
  rw [hreads.eq_nil_of_failed hfailed]
  simp

end Sys2Proof.Machine
end

section
/-! Resets (70_reset_and_hazards.md R190, R192). A reset of the block after a phase ends the command there, whatever the
phase's transaction met: `exec_of_reset_in_check`, and `memReadWord_of_reset` and the lemmas beside it, whose result is
a `State.finish` without a response. -/

namespace Sys2Proof.Machine

/-! The machine after reset, and a reset of the idle block -/

/-- Settles O53: nothing is on the port yet. -/
theorem resetMeetsTheInvariant : Obligations.ResetMeetsTheInvariant := ⟨rfl, rfl, nofun⟩

/-- Settles O54, on `State.reset` as it stands. -/
theorem resetIsIdleAndUnlocked : Obligations.ResetIsIdleAndUnlocked := ⟨rfl, rfl, rfl, rfl, rfl, rfl⟩

theorem step_of_blockReset {s : State} {rest : List Turn} (h : s.turns = .blockReset :: rest) :
    step s = .next (abandon s.takeTurn) := by
  simp [step, h]

/-- Settles O55: the turn is `abandon`, which touches the block alone. -/
theorem blockResetLeavesTheSensorAlone : Obligations.BlockResetLeavesTheSensorAlone := by
  intro s rest hturns
  exact ⟨_, step_of_blockReset hturns, rfl, rfl, rfl, rfl, rfl, congrArg List.tail hturns⟩

/-! A reset of the block at the end of a phase -/

/-- `State.finish` without a response is an abandoned command. -/
theorem State.abandoned_finish (s : State) (n : Nat) (records : List BusRecord) (x : Sensor) :
    Abandoned s (s.finish n records x none) n records x := by
  constructor <;> rfl

/-- Before the phase after which the reset comes, none comes. -/
theorem noResetThrough_of_resetAfter {s : State} {m n : Nat} (h : s.resetAfter = some m) (hlt : n < m) :
    s.NoResetThrough n := by
  intro k hk
  rw [h, ne_eq, Option.some.injEq]
  omega

/-- A reset in the check phase comes before everything else a command does. -/
theorem exec_of_reset_in_check {s : State} (h : s.resetAfter = some 0) (i : Instr) :
    exec i s = .next (s.finish 0 [] s.sensor none) := by
  obtain ⟨t, hexec, hran⟩ := exec_ran i s
  cases hran with
  | abandoned hr => exact hexec
  | _ => contradiction

section
variable {s : State} (hreset : s.resetAfter = some (s.block.phase + 1))
include hreset

/-- The reset comes after the transaction `op` that left the sensor `x`: the transaction stays. -/
theorem endPhase_of_reset_after_transaction (k : State → State) (op : BusOp) (x : Sensor) :
    endPhase k (((enterPhase s).arrive.withSensor x).record op) =
      s.finish 1 [s.seen (s.block.phase + 1) op] x none := by
  exact (if_pos hreset).trans (State.ext_fields rfl rfl rfl rfl List.drop_one.symm rfl rfl rfl rfl)

theorem memReadWord_of_reset (r : WordReg) (k : Word → State → State) :
    memReadWord r k s = s.finish 1
      [(s.inputAt 0).fate.shows
        (s.seen (s.block.phase + 1) (.rd16 r.pointer (some (swap16 (s.sensorAtNext.word r)))))
        (s.seen (s.block.phase + 1) (.rd16 r.pointer none))]
      ((s.inputAt 0).fate.afterRead s.sensorAtNext) none := by
  refine memReadWord_spec (· = _) r k s (fun h => ?_) (fun _ h => ?_) (fun _ h => ?_) <;> rw [h] <;>
    exact endPhase_of_reset_after_transaction hreset _ _ _

theorem memWriteWord_of_reset (r : WordReg) (v : Word) (k : State → State) :
    memWriteWord r v k s = s.finish 1
      [(s.inputAt 0).fate.shows (s.seen (s.block.phase + 1) (.wr16 r.pointer (swap16 v) true))
        (s.seen (s.block.phase + 1) (.wr16 r.pointer (swap16 v) false))]
      ((s.inputAt 0).fate.afterWrite s.sensorAtNext
        (s.sensorAtNext.storeWord s.platform.sensorWrite r v)) none := by
  refine memWriteWord_spec (· = _) r v k s (fun h => ?_) (fun h => ?_) (fun h => ?_) (fun _ h => ?_) <;> rw [h] <;>
    exact endPhase_of_reset_after_transaction hreset _ _ _

theorem memWriteByte_of_reset (v : Byte) (k : State → State) :
    memWriteByte v k s = s.finish 1
      [(s.inputAt 0).fate.shows (s.seen (s.block.phase + 1) (.wr8 resolutionPointer v true))
        (s.seen (s.block.phase + 1) (.wr8 resolutionPointer v false))]
      ((s.inputAt 0).fate.afterWrite s.sensorAtNext
        (s.sensorAtNext.storeByte s.platform.sensorWrite v)) none := by
  refine memWriteByte_spec (· = _) v k s (fun h => ?_) (fun h => ?_) (fun h => ?_) (fun _ h => ?_) <;> rw [h] <;>
    exact endPhase_of_reset_after_transaction hreset _ _ _

end

/-! A reset of the block after a command's first transaction -/

section
variable {s : State} (hreset : s.resetAfter = some 1)
include hreset

theorem checkPhase_of_reset_after_first (k : State → State) : checkPhase k s = k (startCheck s) :=
  checkPhase_of_noReset (noResetThrough_of_resetAfter hreset Nat.zero_lt_one) k

theorem checkPhase_memReadWord_of_reset (r : WordReg) (k : Word → State → State) :
    checkPhase (memReadWord r k) s = s.finish 1
      [(s.inputAt 0).fate.shows (s.seen 1 (.rd16 r.pointer (some (swap16 ((s.moved 0 s.sensor).word r)))))
        (s.seen 1 (.rd16 r.pointer none))]
      ((s.inputAt 0).fate.afterRead (s.moved 0 s.sensor)) none :=
  (checkPhase_of_reset_after_first hreset _).trans (memReadWord_of_reset (s := startCheck s) hreset r k)

theorem checkPhase_memWriteWord_of_reset (r : WordReg) (v : Word) (k : State → State) :
    checkPhase (memWriteWord r v k) s = s.finish 1
      [(s.inputAt 0).fate.shows (s.seen 1 (.wr16 r.pointer (swap16 v) true))
        (s.seen 1 (.wr16 r.pointer (swap16 v) false))]
      ((s.inputAt 0).fate.afterWrite (s.moved 0 s.sensor)
        ((s.moved 0 s.sensor).storeWord s.platform.sensorWrite r v)) none :=
  (checkPhase_of_reset_after_first hreset _).trans (memWriteWord_of_reset (s := startCheck s) hreset r v k)

theorem checkPhase_memWriteByte_of_reset (v : Byte) (k : State → State) :
    checkPhase (memWriteByte v k) s = s.finish 1
      [(s.inputAt 0).fate.shows (s.seen 1 (.wr8 resolutionPointer v true))
        (s.seen 1 (.wr8 resolutionPointer v false))]
      ((s.inputAt 0).fate.afterWrite (s.moved 0 s.sensor)
        ((s.moved 0 s.sensor).storeByte s.platform.sensorWrite v)) none :=
  (checkPhase_of_reset_after_first hreset _).trans (memWriteByte_of_reset (s := startCheck s) hreset v k)

end

/-! A reset of the block after a command's second transaction -/

/-- One transaction after a first read is two transactions. -/
theorem State.finish_readLatched (s : State) (r : WordReg) (record : BusRecord) (x : Sensor) (out : Option Response) :
    (s.readLatched r).finish 1 [record] x out = s.finish 2
      [record, s.seen 1 (.rd16 r.pointer (some (swap16 ((s.moved 0 s.sensor).word r))))] x out :=
  State.ext_fields rfl rfl rfl rfl (List.drop_one.trans (tail_tail_eq_drop_two s.bus.script)) rfl rfl rfl rfl

section
variable {s : State} (hreset : s.resetAfter = some 2) (hfirst : s.Succeeds 0)
include hreset hfirst

theorem checkPhase_memReadWord_memReadWord_of_reset (r q : WordReg) (k : Word → Word → State → State) :
    checkPhase (memReadWord r fun w s1 => memReadWord q (k w) (latch w s1)) s = s.finish 2
      [(s.inputAt 1).fate.shows
          (s.seen 2 (.rd16 q.pointer (some (swap16 ((s.moved 1 (s.moved 0 s.sensor)).word q)))))
          (s.seen 2 (.rd16 q.pointer none)),
        s.seen 1 (.rd16 r.pointer (some (swap16 ((s.moved 0 s.sensor).word r))))]
      ((s.inputAt 1).fate.afterRead (s.moved 1 (s.moved 0 s.sensor))) none := by
  rw [checkPhase_memReadWord_latch (noResetThrough_of_resetAfter hreset (by decide)) hfirst r fun w =>
      memReadWord q (k w), memReadWord_of_reset (s := s.readLatched r) hreset, s.finish_readLatched,
    s.fate_readLatched, s.sensorAtNext_readLatched]
  rfl

theorem checkPhase_rmwConfig_of_reset (modify : Word → Word) :
    checkPhase (rmwConfig modify) s = s.finish 2
      [(s.inputAt 1).fate.shows
          (s.seen 2 (.wr16 0x01 (swap16 (modify (s.moved 0 s.sensor).config)) true))
          (s.seen 2 (.wr16 0x01 (swap16 (modify (s.moved 0 s.sensor).config)) false)),
        s.seen 1 (.rd16 0x01 (some (swap16 (s.moved 0 s.sensor).config)))]
      ((s.inputAt 1).fate.afterWrite (s.moved 1 (s.moved 0 s.sensor))
        ((s.moved 1 (s.moved 0 s.sensor)).storeWord s.platform.sensorWrite .config
          (modify (s.moved 0 s.sensor).config))) none := by
  rw [checkPhase_rmwConfig (noResetThrough_of_resetAfter hreset (by decide)) hfirst,
    memWriteWord_of_reset (s := s.readLatched .config) hreset, s.finish_readLatched, s.fate_readLatched,
    s.sensorAtNext_readLatched]
  rfl

end

/-! Commands that a reset of the block abandons -/

theorem abandoned_memReadWord {s : State} (hreset : s.resetAfter = some 1) (hfirst : s.Succeeds 0) (r : WordReg)
    (k : Word → State → State) :
    Abandoned s (checkPhase (memReadWord r k) s) 1
      [s.seen 1 (.rd16 r.pointer (some (swap16 ((s.moved 0 s.sensor).word r))))] (s.moved 0 s.sensor) := by
  rw [checkPhase_memReadWord_of_reset hreset, hfirst]
  exact s.abandoned_finish ..

theorem setthr_bounds_of_passesChecks {which : Sel} {v : Tval} (h : PassesChecks (.setthr which v)) :
    which.toNat ≤ 2 ∧ outOfRange v = false := by
  simpa [legalThreshold] using (checkError_setthr_eq_none_iff which v).mp ((checkError_eq_none_iff _).mpr h)

/-- Settles O47, by the phase after which the reset comes and the command it meets. -/
theorem blockResetAbandonsTheCommand : Obligations.BlockResetAbandonsTheCommand := by
  refine ⟨fun i s hreset => ⟨_, exec_of_reset_in_check hreset i, s.abandoned_finish ..⟩,
    fun s hreset hfirst => ⟨?_, ?_, fun which v hpass => ?_, fun code hcode => ?_, fun i hi => ?_⟩,
    fun s hreset hfirst hsecond => ⟨?_, fun i hi => ?_⟩⟩
  · exact ⟨_, rfl, abandoned_memReadWord hreset hfirst .tambient _⟩
  · exact ⟨_, rfl, abandoned_memReadWord hreset hfirst .tambient _⟩
  · obtain ⟨hwhich, hrange⟩ := setthr_bounds_of_passesChecks hpass
    refine ⟨_, _, exec_setthr_of_inRange hwhich hrange s, thresholdReg_pointer (decide_eq_true hwhich), ?_⟩
    rw [checkPhase_memWriteWord_of_reset hreset, hfirst]
    exact s.abandoned_finish ..
  · refine ⟨_, exec_setres_of_legal hcode s, ?_⟩
    rw [checkPhase_memWriteByte_of_reset hreset, hfirst]
    exact s.abandoned_finish ..
  · obtain ⟨modify, hm, hcheck⟩ := exists_modifyOf_of_isReadModifyWrite hi
    exact ⟨_, exec_of_modifyOf hm hcheck s, abandoned_memReadWord hreset hfirst .config _⟩
  · refine ⟨_, rfl, ?_⟩
    rw [checkPhase_memReadWord_memReadWord_of_reset hreset hfirst .tambient .config fun ta cfg =>
      respond (.ok (alertData (cmpFlags ta) (alertActive cfg))), hsecond]
    exact s.abandoned_finish ..
  · obtain ⟨modify, hm, hcheck⟩ := exists_modifyOf_of_isReadModifyWrite hi
    refine ⟨_, modify (s.moved 0 s.sensor).config, exec_of_modifyOf hm hcheck s, modify_outside_mask hm _, ?_⟩
    rw [checkPhase_rmwConfig_of_reset hreset hfirst, hsecond]
    exact s.abandoned_finish ..

/-! The response that a reset of the block takes away -/

/-- Settles O58, by how the command ends without the reset: with it the same transactions leave the same sensor. -/
theorem blockResetTakesAwayOnlyTheResponse : Obligations.BlockResetTakesAwayOnlyTheResponse := by
  intro i s u last hreset hlast hexec
  have hran := ran_of_exec hexec
  simp only [← checkError_eq_none_iff] at hlast
  cases hran with
  | abandoned hr => cases hr
  | refused hr kind h =>
    obtain rfl : last = 0 := by simpa [h] using hlast
    exact exec_of_reset_in_check hreset i
  | codec hr data h hd =>
    obtain rfl : last = 0 := by simpa [h, transactionCount_of_codecData hd] using hlast
    exact exec_of_reset_in_check hreset i
  | temperature hr hi =>
    subst hi
    obtain rfl : last = 1 := by simpa [checkError, transactionCount] using hlast
    exact congrArg _ (checkPhase_memReadWord_of_reset hreset .tambient _)
  | threshold hr which v hi h =>
    subst hi
    obtain rfl : last = 1 := by simpa [h, transactionCount] using hlast
    obtain ⟨hwhich, hrange⟩ := setthr_bounds_of_passesChecks ((checkError_eq_none_iff _).mp h)
    rw [exec_setthr_of_inRange hwhich hrange, checkPhase_memWriteWord_of_reset hreset]
    rfl
  | resolution hr code hi h =>
    subst hi
    obtain rfl : last = 1 := by simpa [h, transactionCount] using hlast
    have hcode : code.toNat ≤ 3 := by simpa [checkError, legalCode] using h
    rw [exec_setres_of_legal hcode, checkPhase_memWriteByte_of_reset hreset, ← setWidth_extractLsb'_of_legal hcode]
    rfl
  | alertFirst hr hi h0 =>
    subst hi
    have hfirst : ¬ s.Succeeds 0 := h0.resolve_right nofun
    obtain rfl : last = 1 := by simpa [checkError, transactionCount, hfirst] using hlast
    exact congrArg _ (checkPhase_memReadWord_of_reset hreset .tambient _)
  | alertSecond hr hi h0 h1 =>
    subst hi
    have hfirst : s.Succeeds 0 := h0
    obtain rfl : last = 2 := by simpa [checkError, transactionCount, State.Succeeds, hfirst] using hlast
    exact congrArg _ (checkPhase_memReadWord_memReadWord_of_reset hreset hfirst .tambient .config _)
  | modifyFirst hr modify hm h h0 =>
    have hfirst : ¬ s.Succeeds 0 := h0.resolve_right nofun
    obtain rfl : last = 1 := by simpa [h, transactionCount_of_modifyOf hm, hfirst] using hlast
    rw [exec_of_modifyOf hm h]
    exact congrArg _ (checkPhase_memReadWord_of_reset hreset .config _)
  | modifySecond hr modify hm h h0 h1 =>
    have hfirst : s.Succeeds 0 := h0
    obtain rfl : last = 2 := by simpa [h, transactionCount_of_modifyOf hm, State.Succeeds, hfirst] using hlast
    rw [exec_of_modifyOf hm h]
    exact congrArg _ (checkPhase_rmwConfig_of_reset hreset hfirst modify)

end Sys2Proof.Machine
end

section
/-! Another master's write between the read and the write of SETHYST (70_reset_and_hazards.md R196): it is lost, but for
the lock bits it sets. -/

namespace Sys2Proof.Machine

/-- Another master's write is the one step before the k-th transaction; with `EXCLUSIVE` true there is none
(70_reset_and_hazards.md R196; log 14). -/
theorem State.moved_of_master_write {s : State} {k : Nat} {r : WordReg} {v : Word}
    (h : (s.inputAt k).before = [.master (.writeWord r v)]) (x : Sensor) :
    s.moved k x = if s.platform.exclusive then x else x.storeWord s.platform.sensorWrite r v := by
  rw [State.moved, h]
  rfl

/-- Each bit of CONFIG after a write under the default `SENSOR_WRITE` (10_state.md R38). -/
theorem getLsbD_config_storeWord_default (x : Sensor) (v : Word) (i : Nat) :
    (x.storeWord SensorWrite.default .config v).config.getLsbD i =
      if i = 4 then x.config.getLsbD 4
      else if i = 6 ∨ i = 7 then (x.config.getLsbD i || v.getLsbD i) else v.getLsbD i := by
  have hword : (x.storeWord SensorWrite.default .config v).config = configWrite x.config v :=
    (x.word_storeWord _ .config v).trans (sensorWrite_of_takesWrites (.inl rfl) .config v)
  rw [hword, getLsbD_configWrite]

/-- SETHYST puts the code in bits 10:9 of the word read (42_driver_config.md R141). -/
theorem getLsbD_modifyHyst (code : Sel) (cfg : Word) {i : Nat} (hi : i < 16) :
    (modifyHyst code cfg).getLsbD i = if i = 9 ∨ i = 10 then code.getLsbD (i - 9) else cfg.getLsbD i := by
  have hmask : ∀ i < 16, tHystField.mask.getLsbD i = decide (i = 9 ∨ i = 10) := by decide
  rw [modifyHyst, Field.pack, getLsbD_packField _ _ _ _ hi, hmask i hi]
  by_cases h : i = 9 ∨ i = 10
  · obtain rfl | rfl := h <;> simp [tHystField, selWord]
  · simp [h]

/-- CONFIG under the default `SENSOR_WRITE` after SETHYST, which read it as `x` had it and wrote it after another
master's write, if there is another master: that write is seen in the lock bits alone. -/
theorem getLsbD_config_lostUpdate (x : Sensor) (code : Sel) (exclusive : Bool) (v : Word) {k : Nat} (hk : k < 16) :
    ((if exclusive then x else x.storeWord .default .config v).storeWord .default .config
        (modifyHyst code x.config)).config.getLsbD k =
      if k = 9 ∨ k = 10 then code.getLsbD (k - 9)
      else if k = 6 ∨ k = 7 then (x.config.getLsbD k || (!exclusive && v.getLsbD k)) else x.config.getLsbD k := by
  rw [getLsbD_config_storeWord_default, getLsbD_modifyHyst code x.config hk]
  by_cases hlock : k = 6 ∨ k = 7
  · have hstatus : k ≠ 4 := by omega
    have hhyst : ¬ (k = 9 ∨ k = 10) := by omega
    cases exclusive <;> simp +contextual [getLsbD_config_storeWord_default, hlock, hstatus, hhyst]
  · by_cases hstatus : k = 4
    · subst hstatus
      cases exclusive with
      | true => rfl
      | false => exact getLsbD_config_storeWord_default x v 4
    · simp [hlock, hstatus]

/-- Settles O44: the word written is made of the word read first, and `getLsbD_config_lostUpdate` gives each bit of
CONFIG after it. -/
theorem lostUpdateBetweenMasters : Obligations.LostUpdateBetweenMasters := by
  intro s code v rest hcode hreset hscript
  have hinput0 := State.inputAt_of_script (s := s) (k := 0) (by rw [hscript]; rfl)
  have hinput1 := State.inputAt_of_script (s := s) (k := 1) (by rw [hscript]; rfl)
  have hread : s.moved 0 s.sensor = s.sensor := State.moved_of_quiet (congrArg TxnInput.before hinput0) s.sensor
  have hwrite := State.moved_of_master_write (congrArg TxnInput.before hinput1) s.sensor
  obtain ⟨t, hexec, hfinished⟩ := (runsReadModifyWrite_of_modifyOf (i := .sethyst code) rfl
    (if_pos (decide_eq_true hcode)) s).1 hreset (congrArg TxnInput.fate hinput0) (congrArg TxnInput.fate hinput1)
  have hsensor := hfinished.sensor
  rw [hread, hwrite] at hsensor
  refine ⟨t, hexec, hfinished.responses, modifyHyst_of_legal hcode _ ▸ hsensor, fun hdefault => ?_⟩
  rw [hdefault] at hsensor
  have hbit {k : Nat} (hk : k < 16) := hsensor ▸ getLsbD_config_lostUpdate s.sensor code s.platform.exclusive v hk
  refine ⟨fun k hk => ?_, fun k hk h9 h10 h6 h7 => ?_, fun k hk => ?_⟩
  · simpa [hk] using hbit (k := k) (by omega)
  · simpa [h9, h10, h6, h7] using hbit hk
  · have h : ¬ (k = 9 ∨ k = 10) := by omega
    simpa [hk, h] using hbit (k := k) (by omega)

end Sys2Proof.Machine
end

section
/-! Words written out from the encoding (95_test_vectors.md), and the step that runs a presented word (10_state.md R20,
R23; log 1). -/

namespace Sys2Proof.Machine

/-- Settles O4, a closed fact about sixteen fixed words: the decoder is evaluated on each. -/
theorem writtenOutWordsDecode : Obligations.WrittenOutWordsDecode := by
  unfold Obligations.WrittenOutWordsDecode
  decide

/-- At the format's one length nothing is cut off before the word is taken (30_encoding.md R80). -/
@[simp] theorem presentedWord_fiftySix (w : Nat) : presentedWord 56 w = BitVec.ofNat 56 w :=
  BitVec.eq_of_toNat_eq (Nat.mod_mod w (2 ^ 56))

/-- The step takes the very turn `presentNext` added, so the command runs on the turns that stood before it (log 9). -/
theorem step_presentNext (w : Command) (s : State) :
    step (presentNext w s) = exec (decode w) (acceptCommand w none s) :=
  step_of_command (s := presentNext w s) rfl rfl

/-- Settles O49: both parts are the step of a command turn, the second on the turn `withFetchWord` presents. -/
theorem stepRunsThePresentedCommand : Obligations.StepRunsThePresentedCommand := by
  refine ⟨fun s w r rest hidle hturns => ?_, fun s w => ?_⟩
  · have haccepted : acceptCommand w r s.takeTurn =
        { s with turns := rest, block := { command := some w, phase := 0, latched := none }, resetAfter := r } := by
      simp [acceptCommand, State.takeTurn, hturns]
    rw [step_of_command hidle hturns, haccepted]
  · rw [State.withFetchWord, presentedWord_fiftySix, step_presentNext, acceptCommand]

end Sys2Proof.Machine
end
